-- ==== Sys2Proof/Word.lean ====
section
/-! DEFINITION. The value types of the block (spec/10_state.md R20) and the words its ports carry
(spec/30_encoding.md R90, R98). -/

namespace Sys2Proof

/-- An 8-bit register or frame byte (R9, R20). -/
abbrev Byte := BitVec 8

/-- One of the five fixed button identities, 0..4 for "A".."E" (R8). -/
abbrev ButtonId := Fin 5

/-- Which slot of a button a handler is for (R20). -/
inductive Kind where
  | press
  | release
  deriving DecidableEq, Repr, Inhabited

/-- An edge event: a button and whether it was pressed (R20). -/
structure Event where
  button : ButtonId
  pressed : Bool
  deriving DecidableEq, Repr, Inhabited

/-- The opaque identity of a caller-supplied handler, compared only for equality (R20). -/
structure HandlerRef where
  id : Nat
  deriving DecidableEq, Repr, Inhabited

/-- A channel operand before validation (R20). -/
inductive ChanVal where
  | int (n : Int)
  | nonIntegral
  deriving DecidableEq, Repr

/-- One complete colour update, a list of Output-register bytes (R20). That it has exactly 128 bytes
is `Frame.ok`, which the queue port checks and every step keeps. -/
abbrev Frame := List Byte

/-- A button selector (R98); a set of buttons is given by which of the five are its members. -/
inductive ButtonSel where
  | all
  | one (b : ButtonId)
  | set (members : Vector Bool 5)
  deriving DecidableEq, Repr

/-- The agents that hold a `cphase` (R33): the callers, the host, and the running handler (R246). -/
inductive Agent where
  | caller (k : Nat)
  | host
  | hctx
  deriving DecidableEq, Repr, Inhabited

/-- How a handler came back (R197). -/
inductive HandlerReturn where
  | ok
  | exc
  deriving DecidableEq, Repr, Inhabited

/-- A channel of a colour, with the codes 0, 1, 2 of R146. -/
inductive Channel where
  | r
  | g
  | b
  deriving DecidableEq, Repr

/-- The six selector formats, each a fixed-width field (R90). -/
inductive Selector where
  | cmd (op : BitVec 8)
  | ph (phase : BitVec 4)
  | cph (cphase : BitVec 3)
  | qop (qop : BitVec 2)
  | bop (bop : BitVec 2)
  | env (env : BitVec 2)
  deriving DecidableEq, Repr

/-- A frame operand of zero bytes, what a bare table word carries (log 2). -/
def zeroFrame : Frame := List.replicate 128 0#8

/-- The typed operand fields carried beside a selector (R98). Every port has all of them; a selector
reads those its operation names and no other.  DESIGN CHOICE (log 2), safe. -/
structure Operands where
  r : ChanVal := .int 0
  g : ChanVal := .int 0
  b : ChanVal := .int 0
  sel : ButtonSel := .all
  handler : HandlerRef := ⟨0⟩
  frame : Frame := zeroFrame
  reg : Byte := 0#8
  value : Byte := 0#8
  bytes : List Byte := []
  ret : Option HandlerReturn := none
  deriving DecidableEq, Repr, Inhabited

/-- One step of one agent, as the scheduler names it (R68, R102): a request at the command port, one
further step of a caller's STOP, one worker step, one environment step. -/
inductive AgentStep where
  | command (c : Agent) (op : BitVec 8) (ops : Operands)
  | callerStep (c : Agent)
  | workerStep (ret : Option HandlerReturn)
  | environment (env : BitVec 2)
  deriving DecidableEq, Repr, Inhabited

/-- What the block is sent next: an agent's step, or a request put straight on the queue port or the
bus port, which no agent does on its own (R92 "internal"; log 14). -/
inductive Stimulus where
  | agent (a : AgentStep)
  | queuePort (qop : BitVec 2) (ops : Operands)
  | busPort (bop : BitVec 2) (ops : Operands)
  deriving DecidableEq, Repr

/-- What the bus environment answers to one transaction (R124). A write uses only whether it is
`ok`; a read uses the byte as well. -/
inductive Answer where
  | ok (v : Byte)
  | fail
  deriving DecidableEq, Repr, Inhabited

end Sys2Proof
end

