-- ==== Sys2Proof/Syntax.lean ====
section
/-! DEFINITION. The operations of the block: one constructor for each row of spec/opcode_table.json, in
the table's order. -/

namespace Sys2Proof

/-- An operation with its operands. CMD and CPH operations name the agent that takes them; QOP and BOP
rows are the port operations on their own. -/
inductive Instr where
  -- CMD (spec/30_encoding.md R91)
  | start (c : Agent)
  | stop (c : Agent)
  | setColour (c : Agent) (r g b : ChanVal)
  | onPress (c : Agent) (sel : ButtonSel) (h : HandlerRef)
  | onRelease (c : Agent) (sel : ButtonSel) (h : HandlerRef)
  | hostExit
  -- PH (R93); `hwait` carries the handler's return, if it has returned at this step (log 13)
  | check
  | pop
  | write
  | read
  | cmp
  | dispatch
  | hwait (ret : Option HandlerReturn)
  | update
  | sleep
  -- CPH (R90)
  | sDrain1 (c : Agent)
  | sPushoff (c : Agent)
  | sDrain2 (c : Agent)
  | sSignal (c : Agent)
  | sJoin (c : Agent)
  | sWait (c : Agent)
  -- QOP (R92)
  | push (f : Frame)
  | tryPop
  | drainWait
  -- BOP (R92)
  | readRegister (reg : Byte)
  | writeRegister (reg : Byte) (v : Byte)
  | writeBlock (reg : Byte) (bytes : List Byte)
  -- ENV (R92)
  | publish
  | returnOk
  | returnExc
  deriving DecidableEq, Repr

end Sys2Proof
end

