-- ==== Sys2Proof/WellFormed.lean ====
section
/-! DEFINITION. Which operations the ports can carry: the operand types of spec/10_state.md R20, and who
issues which command (spec/30_encoding.md R91). -/

namespace Sys2Proof

/-- A frame has exactly `FRAME_LEN = 128` bytes (R11, R20). -/
def Frame.ok (f : Frame) : Bool := f.length == 128

/-- A command other than HOST_EXIT is issued by a caller, of which the running handler is one, and not
by the host (R91, R246, R273). -/
def Agent.isCaller (c : Agent) : Bool := c != .host

/-- The checks an operation must pass: its frame operand is a frame, its issuer may issue it. -/
def Instr.wellFormed (i : Instr) : Bool :=
  match i with
  | .start c => c.isCaller
  | .stop c => c.isCaller
  | .setColour c _ _ _ => c.isCaller
  | .onPress c _ _ => c.isCaller
  | .onRelease c _ _ => c.isCaller
  | .hostExit => true
  | .check => true
  | .pop => true
  | .write => true
  | .read => true
  | .cmp => true
  | .dispatch => true
  | .hwait _ => true
  | .update => true
  | .sleep => true
  | .sDrain1 _ => true
  | .sPushoff _ => true
  | .sDrain2 _ => true
  | .sSignal _ => true
  | .sJoin _ => true
  | .sWait _ => true
  | .push f => f.ok
  | .tryPop => true
  | .drainWait => true
  | .readRegister _ => true
  | .writeRegister _ _ => true
  | .writeBlock _ _ => true
  | .publish => true
  | .returnOk => true
  | .returnExc => true

end Sys2Proof
end

