-- ==== Sys2Proof/Decode.lean ====
section
/-! DEFINITION. From a selector and its operand fields to an operation, and back (spec/30_encoding.md
R90-R93, R98-R101). Total on every selector value; what spells no operation is rejected by name. -/

namespace Sys2Proof

/-- What arrives at the block: a selector in one of the six formats, the agent that issues it (for CMD
and CPH), and the operand fields beside it (R98). -/
structure Packet where
  sel : Selector
  issuer : Agent
  operands : Operands
  deriving DecidableEq, Repr

/-- Why a packet is no operation. -/
inductive DecodeError where
  /-- CMD `op` 0x00 or 0x07..0xFF (R100). -/
  | undefinedCommand
  /-- `bop = 0b11` (R100). -/
  | undefinedBusOp
  /-- `env = 0b11` (R100). -/
  | undefinedEnvOp
  /-- `qop = 0b00`: no queue operation this step (R92). -/
  | noQueueOp
  /-- `phase` EXITED or UNSPAWNED: the worker has no step (R27). -/
  | noWorkerStep
  /-- `phase` 10..14 (R100, R200). -/
  | reservedPhase
  /-- `cphase` IDLE: no multi-step command in progress (R33). -/
  | noCallerStep
  /-- `cphase` 7 (R33, R100). -/
  | reservedCPhase
  /-- The host issues a caller's command, or a caller issues HOST_EXIT (R91, R273; log 16). -/
  | wrongIssuer
  /-- The frame operand of PUSH is not a list of 128 bytes (R20; log 17). -/
  | malformedFrame
  deriving DecidableEq, Repr

/-- The CMD table of R91. -/
def decodeCmd (op : BitVec 8) (c : Agent) (x : Operands) : Except DecodeError Instr :=
  match op.toNat with
  | 0x01 => .ok (.start c)
  | 0x02 => .ok (.stop c)
  | 0x03 => .ok (.setColour c x.r x.g x.b)
  | 0x04 => .ok (.onPress c x.sel x.handler)
  | 0x05 => .ok (.onRelease c x.sel x.handler)
  | 0x06 => if c = .host then .ok .hostExit else .error .wrongIssuer
  | _ => .error .undefinedCommand

/-- The PH table: the worker decodes its own phase (R27, R93). -/
def decodePh (phase : BitVec 4) (x : Operands) : Except DecodeError Instr :=
  match phase.toNat with
  | 0 => .ok .check
  | 1 => .ok .pop
  | 2 => .ok .write
  | 3 => .ok .read
  | 4 => .ok .cmp
  | 5 => .ok .dispatch
  | 6 => .ok (.hwait x.ret)
  | 7 => .ok .update
  | 8 => .ok .sleep
  | 9 => .error .noWorkerStep
  | 15 => .error .noWorkerStep
  | _ => .error .reservedPhase

/-- The CPH table: a caller inside STOP decodes its own `cphase` (R33, R90). -/
def decodeCph (cphase : BitVec 3) (c : Agent) : Except DecodeError Instr :=
  match cphase.toNat with
  | 0 => .error .noCallerStep
  | 1 => .ok (.sDrain1 c)
  | 2 => .ok (.sPushoff c)
  | 3 => .ok (.sDrain2 c)
  | 4 => .ok (.sSignal c)
  | 5 => .ok (.sJoin c)
  | 6 => .ok (.sWait c)
  | _ => .error .reservedCPhase

/-- The QOP table (R92). -/
def decodeQop (qop : BitVec 2) (x : Operands) : Except DecodeError Instr :=
  match qop.toNat with
  | 1 => .ok (.push x.frame)
  | 2 => .ok .tryPop
  | 3 => .ok .drainWait
  | _ => .error .noQueueOp

/-- The BOP table (R92). -/
def decodeBop (bop : BitVec 2) (x : Operands) : Except DecodeError Instr :=
  match bop.toNat with
  | 0 => .ok (.readRegister x.reg)
  | 1 => .ok (.writeRegister x.reg x.value)
  | 2 => .ok (.writeBlock x.reg x.bytes)
  | _ => .error .undefinedBusOp

/-- The ENV table (R92). -/
def decodeEnv (env : BitVec 2) : Except DecodeError Instr :=
  match env.toNat with
  | 0 => .ok .publish
  | 1 => .ok .returnOk
  | 2 => .ok .returnExc
  | _ => .error .undefinedEnvOp

/-- The table lookup, before the operand and issuer checks. -/
def decodeFields (p : Packet) : Except DecodeError Instr :=
  match p.sel with
  | .cmd op => decodeCmd op p.issuer p.operands
  | .ph phase => decodePh phase p.operands
  | .cph cphase => decodeCph cphase p.issuer
  | .qop qop => decodeQop qop p.operands
  | .bop bop => decodeBop bop p.operands
  | .env env => decodeEnv env

/-- What an ill-formed operation is rejected as. -/
def illFormedError (i : Instr) : DecodeError :=
  match i with
  | .push _ => .malformedFrame
  | _ => .wrongIssuer

/-- The decoder: the table lookup, then the checks of `Instr.wellFormed`. -/
def decode (p : Packet) : Except DecodeError Instr :=
  match decodeFields p with
  | .error e => .error e
  | .ok i => if i.wellFormed then .ok i else .error (illFormedError i)

/-- The packet of an operation: its selector from the tables of R27, R33, R91 and R92, its operands in
their fields, every other field zero. Operations that name no agent are issued by nobody; the issuer
field then holds `host`, which nothing reads. -/
def encode (i : Instr) : Packet :=
  match i with
  | .start c => ⟨.cmd 0x01, c, {}⟩
  | .stop c => ⟨.cmd 0x02, c, {}⟩
  | .setColour c r g b => ⟨.cmd 0x03, c, { r := r, g := g, b := b }⟩
  | .onPress c sel h => ⟨.cmd 0x04, c, { sel := sel, handler := h }⟩
  | .onRelease c sel h => ⟨.cmd 0x05, c, { sel := sel, handler := h }⟩
  | .hostExit => ⟨.cmd 0x06, .host, {}⟩
  | .check => ⟨.ph 0, .host, {}⟩
  | .pop => ⟨.ph 1, .host, {}⟩
  | .write => ⟨.ph 2, .host, {}⟩
  | .read => ⟨.ph 3, .host, {}⟩
  | .cmp => ⟨.ph 4, .host, {}⟩
  | .dispatch => ⟨.ph 5, .host, {}⟩
  | .hwait ret => ⟨.ph 6, .host, { ret := ret }⟩
  | .update => ⟨.ph 7, .host, {}⟩
  | .sleep => ⟨.ph 8, .host, {}⟩
  | .sDrain1 c => ⟨.cph 1, c, {}⟩
  | .sPushoff c => ⟨.cph 2, c, {}⟩
  | .sDrain2 c => ⟨.cph 3, c, {}⟩
  | .sSignal c => ⟨.cph 4, c, {}⟩
  | .sJoin c => ⟨.cph 5, c, {}⟩
  | .sWait c => ⟨.cph 6, c, {}⟩
  | .push f => ⟨.qop 1, .host, { frame := f }⟩
  | .tryPop => ⟨.qop 2, .host, {}⟩
  | .drainWait => ⟨.qop 3, .host, {}⟩
  | .readRegister reg => ⟨.bop 0, .host, { reg := reg }⟩
  | .writeRegister reg v => ⟨.bop 1, .host, { reg := reg, value := v }⟩
  | .writeBlock reg bytes => ⟨.bop 2, .host, { reg := reg, bytes := bytes }⟩
  | .publish => ⟨.env 0, .host, {}⟩
  | .returnOk => ⟨.env 1, .host, {}⟩
  | .returnExc => ⟨.env 2, .host, {}⟩

/-- The selector a bare table word stands for. The table's six formats share their numbers, so a word
of 8 bits is read in the first format of the table's order that has a row for it; a word given with
its row's own width is read in the format of that width.  DESIGN CHOICE (log 1), safe. -/
def tableSelector (nbits w : Nat) : Selector :=
  match nbits with
  | 2 => if w = 0 then .bop 0 else .qop (BitVec.ofNat 2 w)
  | 3 => .cph (BitVec.ofNat 3 w)
  | 4 => .ph (BitVec.ofNat 4 w)
  | _ => if w = 0 ∨ w = 7 ∨ w = 8 then .ph (BitVec.ofNat 4 w) else .cmd (BitVec.ofNat 8 w)

/-- Who issues a bare table word: the host for HOST_EXIT, caller 0 for the rest. -/
def tableIssuer (sel : Selector) : Agent :=
  if sel = .cmd 0x06 then .host else .caller 0

/-- The packet of a bare table word: operand fields all zero. -/
def tablePacket (nbits w : Nat) : Packet :=
  ⟨tableSelector nbits w, tableIssuer (tableSelector nbits w), {}⟩

/-- What the decoder reads from a bare table word. -/
def decodeTableWord (nbits w : Nat) : Option Instr :=
  if w < 2 ^ nbits then
    match decode (tablePacket nbits w) with
    | .ok i => some i
    | .error _ => none
  else none

end Sys2Proof
end

