-- ==== Sys2Proof/Config.lean ====
section
/-! DEFINITION. The open parameters of the spec (spec/00_scope.md R12-R15) and the free values of the
model: constants without a body, so that nothing can be proved of their values. -/

namespace Sys2Proof

/-- The parameters the spec takes as arguments of the model (R12-R15). A state carries one such record
and no step writes it, so a statement about every state is a statement about every choice of them.
DESIGN CHOICE (log 5), safe. `callers` is the set `Callers` of R15: caller `c<k>` is one of the block's
agents exactly when `k` is listed (log 11). `chunkExtra` is `MAX_CHUNK - 1` (R13: `MAX_CHUNK >= 1`); `capacityExtra`
is `none`, the default of R15, for an unbounded queue and `some j` for `QUEUE_CAPACITY = some (j + 1)`
(R171: `k >= 1`);
`pollInterval` is read by no rule (R14). -/
structure Params where
  gammaTable : Vector Byte 256
  chunkExtra : Nat
  pollInterval : Nat
  deviceAddr : Nat
  polWord : Byte
  dirWord : Byte
  callers : List Nat
  capacityExtra : Option Nat := none
  deriving DecidableEq, Repr, Inhabited

/-- The parameters in force at reset: open (log 5). -/
opaque Config.params : Params

/-- The free choice of the agent that moves next, once `script` lists nothing (R69; log 3). -/
opaque Config.schedule : Nat → AgentStep

/-- The free answer of the bus environment, once `answers` lists nothing (R124; log 4). -/
opaque Config.busAnswer : Nat → Answer

end Sys2Proof
end

