-- ==== Sys2Proof/Machine/State.lean ====
section
/-! DEFINITION. The state of the block (spec/10_state.md), its reset (spec/70_reset_and_hazards.md R320,
R321), and the reasons a step can stop. Plain data. -/

namespace Sys2Proof.Machine

/-- Why the machine stops with a fault. -/
inductive Fault where
  /-- Raised by `step` when a PUSH request put straight on the queue port carries a byte list that is
  not a frame of 128 bytes (R20; log 17). No agent of the block sends one. Safe: the spec has no such
  value. -/
  | malformedFrame
  deriving DecidableEq, Repr

/-- Why an operation has no meaning. -/
inductive Refusal where
  /-- Raised by `exec` for an operation that is not modelled yet. Safe. -/
  | notModelled (mnemonic : String)
  deriving DecidableEq, Repr

/-- The lifecycle state (R21). -/
inductive Lifecycle where
  | uninitialized
  | running
  | stopping
  | stopped
  deriving DecidableEq, Repr

/-- The worker's 4-bit phase (R27). -/
abbrev Phase := BitVec 4

/-- A caller's 3-bit step of a STOP in progress (R33). -/
abbrev CPhase := BitVec 3

/-- The two handler slots of one button (R24). -/
structure Slots where
  press : Option HandlerRef
  release : Option HandlerRef
  deriving DecidableEq, Repr, Inhabited

/-- A registration not yet published (R25). -/
structure Registration where
  button : ButtonId
  kind : Kind
  handler : HandlerRef
  deriving DecidableEq, Repr

/-- A handler invocation (R32, R34). -/
structure Invocation where
  handler : HandlerRef
  event : Event
  deriving DecidableEq, Repr

/-- The sticky model fault bits (R26). -/
structure FaultBits where
  illegalStart : Bool
  queueOverflow : Bool
  badPhase : Bool
  deriving DecidableEq, Repr

/-- The name a refused operation leaves (R40). -/
inductive RefusalName where
  | undefinedCommand
  | undefinedBusOp
  | undefinedEnvOp
  | badBusRequest
  deriving DecidableEq, Repr

/-- One bus transaction with its result (R34, R120-R122); each carries the device address (R126). -/
inductive BusRecord where
  | read (dev : Nat) (reg : Byte) (ans : Answer)
  | write (dev : Nat) (reg : Byte) (v : Byte) (ok : Bool)
  | block (dev : Nat) (reg : Byte) (bytes : List Byte) (ok : Bool)
  deriving DecidableEq, Repr

/-- Which transaction of a cycle failed (R291). -/
inductive BusOp where
  | read
  | write
  deriving DecidableEq, Repr

/-- What an error record says (R291). -/
inductive ErrInfo where
  | reg (reg : Byte)
  | bus (op : BusOp) (reg : Byte) (k : Nat)
  | channel (ch : Channel)
  | event (e : Event)
  deriving DecidableEq, Repr

/-- An error: its code and its info (R290, R291). -/
structure ErrRecord where
  code : Nat
  info : ErrInfo
  deriving DecidableEq, Repr

/-- What an operation returns to the one that issued it. -/
inductive Reply where
  | done
  | ok
  | err (e : ErrRecord)
  | popped (f : Option Frame)
  | readAnswer (a : Answer)
  | writeAnswer (ok : Bool)
  deriving DecidableEq, Repr

/-- To whom a reply goes: an agent, or whoever drives the queue or bus port. -/
inductive Requester where
  | agent (c : Agent)
  | port
  deriving DecidableEq, Repr

/-- The state. The first part is the block's own, element by element as spec/10_state.md R21-R34 and R40
give it; `params` are the spec's parameters; the rest is the model's (logs 3, 4, 7). -/
structure State where
  lifecycle : Lifecycle
  running : Bool
  queue : List Frame
  handlers : Vector Slots 5
  pendingReg : List Registration
  faults : FaultBits
  phase : Phase
  lastSnapshot : Byte
  curSnapshot : Option Byte
  inflight : Option (Frame × Nat)
  events : List Event
  call : Option Invocation
  /-- The agents whose `cphase` is not IDLE, by `Agent.key`, keys strictly rising (log 20). -/
  cphases : List (Nat × CPhase)
  busLog : List BusRecord
  errLog : List ErrRecord
  dispatchLog : List Invocation
  refused : Option RefusalName
  /-- The spec's parameters; no step writes them (log 5). -/
  params : Params
  /-- The value the last operation that returned one returned, and to whom (log 7). -/
  reply : Option (Requester × Reply)
  /-- Which agent moves next, and what the ports are sent (log 3). -/
  script : List Stimulus
  /-- The index of the next free scheduling choice (log 3). -/
  choices : Nat
  /-- What the bus environment answers next (log 4). -/
  answers : List Answer
  /-- The index of the next free answer (log 4). -/
  draws : Nat
  deriving DecidableEq, Repr

/-- The state of a new block, before any START (R320, R321). `lastSnapshot` has no value of the spec's
here: 0xFF is a DESIGN CHOICE, unsafe (log 8). The phase is UNSPAWNED, 15. -/
def State.reset : State where
  lifecycle := .uninitialized
  running := false
  queue := []
  handlers := Vector.replicate 5 ⟨none, none⟩
  pendingReg := []
  faults := ⟨false, false, false⟩
  phase := 15#4
  lastSnapshot := 0xFF#8
  curSnapshot := none
  inflight := none
  events := []
  call := none
  cphases := []
  busLog := []
  errLog := []
  dispatchLog := []
  refused := none
  params := Config.params
  reply := none
  script := []
  choices := 0
  answers := []
  draws := 0

end Sys2Proof.Machine
end

