-- ==== Sys2Proof/Machine/Ops.lean ====
section
/-! DEFINITION. The named operations over the state that the meanings share: the table of phases, the
callers' `cphase`, the handler slots, the answers of the bus environment, the error port (R290), the
fault bits (R296), the refusal mark (R297), and how a step that is not enabled is taken (R18). -/

namespace Sys2Proof.Machine

/-- The outcome of a meaning. -/
abbrev Result := Host.Outcome State Fault Refusal

/-! The phases of R27 and the caller phases of R33. -/

@[simp] abbrev Phase.check : Phase := 0#4
@[simp] abbrev Phase.pop : Phase := 1#4
@[simp] abbrev Phase.write : Phase := 2#4
@[simp] abbrev Phase.read : Phase := 3#4
@[simp] abbrev Phase.cmp : Phase := 4#4
@[simp] abbrev Phase.dispatch : Phase := 5#4
@[simp] abbrev Phase.hwait : Phase := 6#4
@[simp] abbrev Phase.update : Phase := 7#4
@[simp] abbrev Phase.sleep : Phase := 8#4
@[simp] abbrev Phase.exited : Phase := 9#4
@[simp] abbrev Phase.unspawned : Phase := 15#4

@[simp] abbrev CPhase.idle : CPhase := 0#3
@[simp] abbrev CPhase.sDrain1 : CPhase := 1#3
@[simp] abbrev CPhase.sPushoff : CPhase := 2#3
@[simp] abbrev CPhase.sDrain2 : CPhase := 3#3
@[simp] abbrev CPhase.sSignal : CPhase := 4#3
@[simp] abbrev CPhase.sJoin : CPhase := 5#3
@[simp] abbrev CPhase.sWait : CPhase := 6#3

/-- The 2-bit encoding of the lifecycle (R21). -/
def Lifecycle.code (l : Lifecycle) : BitVec 2 :=
  match l with
  | .uninitialized => 0
  | .running => 1
  | .stopping => 2
  | .stopped => 3

/-! The parameters (R13, R171). -/

/-- `MAX_CHUNK`, at least 1 (R13). -/
def State.maxChunk (s : State) : Nat := s.params.chunkExtra + 1

/-- `QUEUE_CAPACITY`, at least 1 where finite (R171). -/
def State.capacity (s : State) : Option Nat := s.params.capacityExtra.map (· + 1)

/-! The callers' phases: a list of the agents that are not IDLE. -/

/-- The key an agent is listed under. -/
def Agent.key (c : Agent) : Nat :=
  match c with
  | .host => 0
  | .hctx => 1
  | .caller k => k + 2

/-- The phase listed for a key; a key that is not listed is IDLE. -/
def phaseOf (m : List (Nat × CPhase)) (k : Nat) : CPhase :=
  match m with
  | [] => 0#3
  | (a, v) :: rest => if a = k then v else phaseOf rest k

/-- Takes every entry of a key out. -/
def dropKey (m : List (Nat × CPhase)) (k : Nat) : List (Nat × CPhase) :=
  match m with
  | [] => []
  | (a, v) :: rest => if a = k then dropKey rest k else (a, v) :: dropKey rest k

/-- Puts an entry before the first larger key. -/
def insertKey (m : List (Nat × CPhase)) (k : Nat) (v : CPhase) : List (Nat × CPhase) :=
  match m with
  | [] => [(k, v)]
  | (a, w) :: rest => if k < a then (k, v) :: (a, w) :: rest else (a, w) :: insertKey rest k v

/-- Lists `v` for a key; IDLE is listed by leaving the key out. -/
def setPhaseOf (m : List (Nat × CPhase)) (k : Nat) (v : CPhase) : List (Nat × CPhase) :=
  if v = 0#3 then dropKey m k else insertKey (dropKey m k) k v

/-- The canonical form: keys strictly rising from `lo`, no IDLE entry (log 20). -/
def phasesWf (lo : Nat) (m : List (Nat × CPhase)) : Bool :=
  match m with
  | [] => true
  | (a, v) :: rest => decide (lo ≤ a) && decide (v ≠ 0#3) && phasesWf (a + 1) rest

/-- `cphase[c]` (R33). -/
def State.cphase (s : State) (c : Agent) : CPhase := phaseOf s.cphases (Agent.key c)

/-- `cphase[c] <- v` (R33). -/
def State.setCphase (s : State) (c : Agent) (v : CPhase) : State :=
  { s with cphases := setPhaseOf s.cphases (Agent.key c) v }

/-- `phase <- p` (R18). -/
def State.goto (s : State) (p : Phase) : State := { s with phase := p }

/-! The handler table (R24). -/

/-- The slot of a kind. -/
def Slots.get (x : Slots) (k : Kind) : Option HandlerRef :=
  match k with
  | .press => x.press
  | .release => x.release

/-- The slots with one of them replaced whole (R72). -/
def Slots.put (x : Slots) (k : Kind) (h : HandlerRef) : Slots :=
  match k with
  | .press => { x with press := some h }
  | .release => { x with release := some h }

/-- `handlers(b, kind)` (R24). -/
def State.handler (s : State) (b : ButtonId) (k : Kind) : Option HandlerRef :=
  (s.handlers[b]).get k

/-- `handlers(b, kind) <- some h` (R243). -/
def State.setHandler (s : State) (b : ButtonId) (k : Kind) (h : HandlerRef) : State :=
  { s with handlers := s.handlers.set b ((s.handlers[b]).put k h) }

/-! The model's own ports: replies, errors, fault bits, refusals. -/

/-- Hands a return value to the one that issued the operation (log 7). -/
def State.answerTo (s : State) (who : Requester) (r : Reply) : State :=
  { s with reply := some (who, r) }

/-- `raise E(info)` (R290): the error port takes the record and the raising rule goes on. The one way
an error is taken in the worker. -/
def State.raiseError (s : State) (e : ErrRecord) : State :=
  { s with errLog := s.errLog ++ [e] }

/-- ConfigurationFailure(reg), code 1 (R291). -/
def configurationFailure (reg : Byte) : ErrRecord := ⟨1, .reg reg⟩

/-- BusIOFailure(op, reg, k), code 2 (R291). -/
def busIOFailure (op : BusOp) (reg : Byte) (k : Nat) : ErrRecord := ⟨2, .bus op reg k⟩

/-- InvalidColour(channel), code 3 (R291). -/
def invalidColour (ch : Channel) : ErrRecord := ⟨3, .channel ch⟩

/-- HandlerException(button, pressed), code 4 (R291). -/
def handlerException (e : Event) : ErrRecord := ⟨4, .event e⟩

/-- `fault.bad_phase <- true`; the agent that reached it stays where it is (R33, R200; log 10). -/
def State.badPhase (s : State) : State :=
  { s with faults := { s.faults with badPhase := true } }

/-- `fault.illegal_start <- true` (R262). -/
def State.illegalStart (s : State) : State :=
  { s with faults := { s.faults with illegalStart := true } }

/-- A refusal sets the mark and does nothing else (R297). The first name stays: DEDUCED (log 9). -/
def State.refuse (s : State) (n : RefusalName) : State :=
  { s with refused := some (s.refused.getD n) }

/-! The bus environment (R124). -/

/-- The answer the environment gives to the next transaction: the next listed one, else a free value
(log 4). -/
def State.nextAnswer (s : State) : Answer :=
  match s.answers with
  | a :: _ => a
  | [] => Config.busAnswer s.draws

/-- Whether an answer is `ok`. -/
def Answer.isOk (a : Answer) : Bool :=
  match a with
  | .ok _ => true
  | .fail => false

/-- Uses up one answer and logs the transaction it answered (R34). -/
def State.transact (s : State) (rec : BusRecord) : State :=
  { s with busLog := s.busLog ++ [rec], answers := s.answers.tail, draws := s.draws + 1 }

/-! How a rule that applies only in one place of its agent's program is taken (R18: "hold until C means
the agent has no enabled step"). A step that is not enabled leaves the state as it is: DESIGN CHOICE
(log 6), safe. -/

/-- Whether an agent exists: a caller does when `Callers` names it (R15; log 11), the handler context
while a handler runs (R246; log 12), the host always. -/
def State.present (s : State) (c : Agent) : Bool :=
  match c with
  | .hctx => s.call.isSome
  | .host => true
  | .caller k => decide (k ∈ s.params.callers)

/-- Whether an agent may issue a command: it exists and is not inside STOP (R33, R91). -/
def State.canIssue (s : State) (c : Agent) : Bool :=
  s.cphase c == CPhase.idle && s.present c

/-- A CMD step of `c`. -/
def command (c : Agent) (f : State → State) (s : State) : Result :=
  .next (if s.canIssue c then f s else s)

/-- A CPH step of `c`, which applies while `cphase[c]` is `p`. -/
def stopStep (c : Agent) (p : CPhase) (f : State → State) (s : State) : Result :=
  .next (if s.cphase c = p ∧ s.present c = true then f s else s)

/-- A worker step, which applies while `phase` is `p`. -/
def workerStep (p : Phase) (f : State → State) (s : State) : Result :=
  .next (if s.phase = p then f s else s)

end Sys2Proof.Machine
end

