-- ==== Sys2Proof/Machine/Bus.lean ====
section
/-! DEFINITION. The bus transport port (spec/40_bus_transport.md): the three primitives, the requests it
refuses, the chunking of a frame, and the meanings of the BOP rows. The answer a primitive returns is
`State.nextAnswer` of the state it is applied to. -/

namespace Sys2Proof.Machine

/-! The register map (R61). -/

def regInput : Byte := 0x00#8
def regOutput : Byte := 0x01#8
def regPolarity : Byte := 0x02#8
def regConfiguration : Byte := 0x03#8

/-- `MemRead(reg, 1)` (R120). -/
def memRead (reg : Byte) (s : State) : State :=
  s.transact (.read s.params.deviceAddr reg s.nextAnswer)

/-- `MemWrite(reg, 1, v)` (R121). -/
def memWrite (reg v : Byte) (s : State) : State :=
  s.transact (.write s.params.deviceAddr reg v (Answer.isOk s.nextAnswer))

/-- `MemWriteBlock(reg, bytes)` (R122). -/
def memWriteBlock (reg : Byte) (bytes : List Byte) (s : State) : State :=
  s.transact (.block s.params.deviceAddr reg bytes (Answer.isOk s.nextAnswer))

/-- `nchunks(f) = ceil(len(f) / C)` (R125). -/
def nchunks (c : Nat) (f : Frame) : Nat := (f.length + c - 1) / c

/-- `chunk(f, k) = f[k*C : min((k+1)*C, len(f))]` (R125). -/
def chunk (c : Nat) (f : Frame) (k : Nat) : List Byte := (f.drop (k * c)).take c

/-- Whether READ_REGISTER may name the register: the block reads Input only (R61, R120). -/
def readOk (reg : Byte) : Bool := reg == regInput

/-- Whether WRITE_REGISTER may name the register: Output, Polarity or Configuration (R121). -/
def writeOk (reg : Byte) : Bool := reg == regOutput || reg == regPolarity || reg == regConfiguration

/-- Whether a WRITE_BLOCK request is well formed: Output, and 1 to `MAX_CHUNK` bytes (R122, R123). -/
def blockOk (s : State) (reg : Byte) (bytes : List Byte) : Bool :=
  reg == regOutput && decide (1 ≤ bytes.length) && decide (bytes.length ≤ s.maxChunk)

/-- A request the port takes, or refuses as `BadBusRequest` with no other effect (R123, R297). -/
def busRequest (good : Bool) (f : State → State) (s : State) : State :=
  if good then f s else s.refuse .badBusRequest

/-- READ_REGISTER on the bus port (R120, R123). -/
def execReadRegister (reg : Byte) (s : State) : Result :=
  .next (busRequest (readOk reg)
    (fun s => (memRead reg s).answerTo .port (.readAnswer s.nextAnswer)) s)

/-- WRITE_REGISTER on the bus port (R121, R123). -/
def execWriteRegister (reg v : Byte) (s : State) : Result :=
  .next (busRequest (writeOk reg)
    (fun s => (memWrite reg v s).answerTo .port (.writeAnswer (Answer.isOk s.nextAnswer))) s)

/-- WRITE_BLOCK on the bus port (R122, R123). -/
def execWriteBlock (reg : Byte) (bytes : List Byte) (s : State) : Result :=
  .next (busRequest (blockOk s reg bytes)
    (fun s => (memWriteBlock reg bytes s).answerTo .port (.writeAnswer (Answer.isOk s.nextAnswer))) s)

end Sys2Proof.Machine
end

