-- ==== Sys2Proof/Machine/Encoder.lean ====
section
/-! DEFINITION. The gamma table and the frame encoder (spec/41_frame_encoder.md R140-R149). -/

namespace Sys2Proof.Machine

/-- The frame marker byte (R10). -/
def marker : Byte := 0b11101111#8

/-- `GAMMA(x)`: the table's entry `x` (R140). -/
def gamma (p : Params) (x : Byte) : Byte := p.gammaTable[x.toNat]

/-- An Output byte: the data line on bit 7, the clock line on bit 6, bits 5..0 zero (R95). -/
def lineByte (data clock : Bool) : Byte :=
  (if data then 0x80#8 else 0x00#8) ||| (if clock then 0x40#8 else 0x00#8)

/-- `SER(x)`: for each bit, most significant first, the data level with the clock low and then with the
clock high (R141). -/
def ser (x : Byte) : List Byte :=
  (List.range 8).flatMap (fun k => [lineByte (x.getLsbD (7 - k)) false, lineByte (x.getLsbD (7 - k)) true])

/-- `PAYLOAD(rb, gb, bb)`, the channels in the order blue, green, red (R143). -/
def payload (p : Params) (rb gb bb : Byte) : List Byte :=
  [0x00#8, 0x00#8, marker, gamma p bb, gamma p gb, gamma p rb, 0x00#8, 0x00#8]

/-- `ENCODE(rb, gb, bb)` (R144). -/
def encodeFrame (p : Params) (rb gb bb : Byte) : Frame := (payload p rb gb bb).flatMap ser

/-- `OFF_FRAME := ENCODE(0, 0, 0)` (R149). -/
def offFrame (p : Params) : Frame := encodeFrame p 0#8 0#8 0#8

end Sys2Proof.Machine
end

