-- ==== Sys2Proof/Machine/Operands.lean ====
section
/-! DEFINITION. Operand forms: the button mask (R99), the registrations a mask stands for (R240), and the
validation of a colour (R146). -/

namespace Sys2Proof.Machine

/-- The button identities in ascending order. -/
def buttons : List ButtonId := [0, 1, 2, 3, 4]

/-- `1 << b` as a 5-bit mask (R99). -/
def buttonBit (b : ButtonId) : BitVec 5 := 1#5 <<< b.val

/-- The 5-bit mask of a selector (R99). -/
def selMask (sel : ButtonSel) : BitVec 5 :=
  match sel with
  | .all => 0b11111#5
  | .one b => buttonBit b
  | .set members => (buttons.filter (fun b => members[b])).foldl (fun m b => m ||| buttonBit b) 0#5

/-- The registrations of a mask, one for each selected button in ascending order (R240, R241). -/
def registrations (m : BitVec 5) (k : Kind) (h : HandlerRef) : List Registration :=
  (buttons.filter (fun b => m.getLsbD b.val)).map (fun b => ⟨b, k, h⟩)

/-- The byte of a valid channel operand: `Int n` with `0 <= n <= 255` (R98, R146). -/
def channelByte (v : ChanVal) : Option Byte :=
  match v with
  | .int n => if 0 ≤ n ∧ n ≤ 255 then some (BitVec.ofInt 8 n) else none
  | .nonIntegral => none

/-- The code a channel is reported by (R146, R291). -/
def Channel.code (ch : Channel) : Nat :=
  match ch with
  | .r => 0
  | .g => 1
  | .b => 2

/-- `check(r, g, b)`: the three bytes, or the first invalid channel in r, g, b order (R146). -/
def checkColour (r g b : ChanVal) : Except Channel (Byte × Byte × Byte) :=
  match channelByte r with
  | none => .error .r
  | some rb =>
    match channelByte g with
    | none => .error .g
    | some gb =>
      match channelByte b with
      | none => .error .b
      | some bb => .ok (rb, gb, bb)

end Sys2Proof.Machine
end

