-- ==== Sys2Proof/Machine/Flags.lean ====
section
/-! DEFINITION. The three status conditions, computed from the state and never stored (R39), and the
condition R331 speaks of, computed as they are. The block has no arithmetic flags. -/

namespace Sys2Proof.Machine

/-- `empty := (queue = [])` (R39). -/
def State.empty (s : State) : Bool := s.queue.isEmpty

/-- `drained := empty ∧ inflight = none` (R39, R174). -/
def State.drained (s : State) : Bool := s.empty && s.inflight.isNone

/-- `alive := phase ∉ {EXITED, UNSPAWNED}` (R39). -/
def State.alive (s : State) : Bool := s.phase != Phase.exited && s.phase != Phase.unspawned

/-- Whether the S_DRAIN2 step of a STOP has completed (R331): an agent has gone on to S_SIGNAL or S_JOIN
(R269, R270), or the lifecycle is Stopped (R271). -/
def State.pastFinalDrain (s : State) : Bool :=
  s.lifecycle == .stopped ||
    s.cphases.any (fun e =>
      phaseOf s.cphases e.1 == CPhase.sSignal || phaseOf s.cphases e.1 == CPhase.sJoin)

/-- What a caller does with `drained`: the step that finds it true completes, until then it holds
(R174). -/
def State.whenDrained (s : State) (f : State → State) : State :=
  if s.drained then f s else s

end Sys2Proof.Machine
end

