-- ==== Sys2Proof/Machine/Queue.lean ====
section
/-! DEFINITION. The update queue (spec/42_update_queue.md) and the meanings of the QOP rows. -/

namespace Sys2Proof.Machine

/-- Whether a finite queue has no room (R171); an unbounded one always has. -/
def State.full (s : State) : Bool :=
  match s.capacity with
  | none => false
  | some k => decide (k ≤ s.queue.length)

/-- `PUSH(f)` (R170): appends at the tail, or, on a full queue, sets the overflow fault and leaves the
queue as it is (R171). -/
def State.push (s : State) (f : Frame) : State :=
  { s with
    queue := if s.full then s.queue else s.queue ++ [f]
    faults := { s.faults with queueOverflow := s.full || s.faults.queueOverflow } }

/-- The frame `TRY_POP()` returns (R172). -/
def State.popped (s : State) : Option Frame := s.queue.head?

/-- The state `TRY_POP()` leaves (R172). -/
def State.popQueue (s : State) : State := { s with queue := s.queue.tail }

/-- PUSH on the queue port (R170). -/
def execPush (f : Frame) (s : State) : Result := .next ((s.push f).answerTo .port .done)

/-- TRY_POP on the queue port (R172). -/
def execTryPop (s : State) : Result := .next (s.popQueue.answerTo .port (.popped s.popped))

/-- DRAIN_WAIT on the queue port (R174): returns once drained, holds until then. -/
def execDrainWait (s : State) : Result := .next (s.whenDrained (fun s => s.answerTo .port .done))

end Sys2Proof.Machine
end

