-- ==== Sys2Proof/Machine/Command.lean ====
section
/-! DEFINITION. The meanings of the CMD rows (spec/45_lifecycle.md, spec/41_frame_encoder.md R150,
spec/44_registry.md). -/

namespace Sys2Proof.Machine

/-- `OUT_INIT` (R15, R260). -/
def outInit : Byte := 0x00#8

/-- The configuration writes of START, in order (R260). -/
def configSeq (p : Params) : List (Byte × Byte) :=
  [(regOutput, outInit), (regPolarity, p.polWord), (regConfiguration, p.dirWord)]

/-- Makes the configuration writes up to the first that fails; answers the register of that one, if
any (R261, R264). -/
def configure (ws : List (Byte × Byte)) (s : State) : Option Byte × State :=
  match ws with
  | [] => (none, s)
  | (reg, v) :: rest =>
    if Answer.isOk s.nextAnswer then configure rest (memWrite reg v s)
    else (some reg, memWrite reg v s)

/-- The spawn of the worker, once the configuration has been written (R261). -/
def State.spawn (s : State) : State :=
  { s with
    lastSnapshot := 0xFF#8, curSnapshot := none, inflight := none, events := [], call := none
    running := true, phase := Phase.check, lifecycle := .running }

/-- What START does with the outcome of the configuration writes (R261, R264). -/
def startOutcome (c : Agent) (r : Option Byte × State) : State :=
  match r with
  | (some reg, s) => s.answerTo (.agent c) (.err (configurationFailure reg))
  | (none, s) => s.spawn.answerTo (.agent c) .ok

/-- START in the lifecycle state the machine is in (R261, R262). -/
def startBody (c : Agent) (s : State) : State :=
  if s.lifecycle = .uninitialized then startOutcome c (configure (configSeq s.params) s)
  else s.illegalStart.answerTo (.agent c) .done

/-- START (R261). -/
def execStart (c : Agent) (s : State) : Result := command c (startBody c) s

/-- The entry step of STOP for the agent `c` (R265, R266). -/
def stopBody (c : Agent) (s : State) : State :=
  match s.lifecycle with
  | .stopped => s.answerTo (.agent c) .done
  | .uninitialized => s.answerTo (.agent c) .done
  | .stopping => s.setCphase c CPhase.sWait
  | .running => { s with lifecycle := .stopping }.setCphase c CPhase.sDrain1

/-- STOP (R265). -/
def execStop (c : Agent) (s : State) : Result := command c (stopBody c) s

/-- SET_COLOUR once issued (R150): an invalid colour is returned to the caller and changes nothing; a
valid one is encoded and pushed. -/
def setColourBody (c : Agent) (r g b : ChanVal) (s : State) : State :=
  match checkColour r g b with
  | .error ch => s.answerTo (.agent c) (.err (invalidColour ch))
  | .ok (rb, gb, bb) => (s.push (encodeFrame s.params rb gb bb)).answerTo (.agent c) .ok

/-- SET_COLOUR (R150). -/
def execSetColour (c : Agent) (r g b : ChanVal) (s : State) : Result :=
  command c (setColourBody c r g b) s

/-- A registration of the selected buttons' slots of one kind (R240, R241). -/
def registerBody (c : Agent) (k : Kind) (sel : ButtonSel) (h : HandlerRef) (s : State) : State :=
  { s with pendingReg := s.pendingReg ++ registrations (selMask sel) k h }.answerTo (.agent c) .done

/-- ON_PRESS (R240). -/
def execOnPress (c : Agent) (sel : ButtonSel) (h : HandlerRef) (s : State) : Result :=
  command c (registerBody c .press sel h) s

/-- ON_RELEASE (R241). -/
def execOnRelease (c : Agent) (sel : ButtonSel) (h : HandlerRef) (s : State) : Result :=
  command c (registerBody c .release sel h) s

/-- HOST_EXIT (R273): the host takes the STOP sequence as an agent of its own. -/
def execHostExit (s : State) : Result := command .host (stopBody .host) s

end Sys2Proof.Machine
end

