-- ==== Sys2Proof/Machine/Comparator.lean ====
section
/-! DEFINITION. The per-button edge comparator (spec/43_poll_dispatch.md R195). -/

namespace Sys2Proof.Machine

/-- `ev(i)`: a press on 1 to 0, a release on 0 to 1, nothing otherwise (R195). -/
def edgeAt (prev curr : Byte) (i : ButtonId) : Option Event :=
  match prev.getLsbD i.val, curr.getLsbD i.val with
  | true, false => some ⟨i, true⟩
  | false, true => some ⟨i, false⟩
  | true, true => none
  | false, false => none

/-- `EDGE(prev, curr)`, in ascending button index (R195). -/
def edge (prev curr : Byte) : List Event := buttons.filterMap (edgeAt prev curr)

/-- `press_mask` (R195). -/
def pressMask (prev curr : Byte) : Byte := prev &&& ~~~curr &&& 0x1F#8

/-- `release_mask` (R195). -/
def releaseMask (prev curr : Byte) : Byte := ~~~prev &&& curr &&& 0x1F#8

/-- The kind of slot an event goes to (R196). -/
def Event.kind (e : Event) : Kind := if e.pressed then .press else .release

end Sys2Proof.Machine
end

