-- ==== Sys2Proof/Machine/Worker.lean ====
section
/-! DEFINITION. The meanings of the PH rows, the worker's micro-steps (spec/43_poll_dispatch.md
R190-R200). Each applies only while `phase` holds its value. -/

namespace Sys2Proof.Machine

/-- CHECK (R190). -/
def execCheck (s : State) : Result :=
  workerStep Phase.check (fun s => s.goto (if s.running then Phase.pop else Phase.exited)) s

/-- What POP does with the frame TRY_POP returns (R191). Once a STOP's S_DRAIN2 has completed, the frames
that are queued have been pushed since and are never sent (R331): POP leaves them there and goes on as
on an empty queue. That R331 is an exception to R191 is DEDUCED (log 24), unsafe. -/
def popBody (s : State) : State :=
  if s.pastFinalDrain then s.goto Phase.read
  else
    match s.popped with
    | some f => { s.popQueue with inflight := some (f, 0), phase := Phase.write }
    | none => s.popQueue.goto Phase.read

/-- POP (R191). -/
def execPop (s : State) : Result := workerStep Phase.pop popBody s

/-- WRITE of chunk `k` of `f`, once the port has taken the request (R192): the next chunk, the end of
the frame, or BusIOFailure and the rest of the cycle skipped (R292). -/
def writeChunk (f : Frame) (k : Nat) (s : State) : State :=
  if Answer.isOk s.nextAnswer then
    if k + 1 < nchunks s.maxChunk f then
      { memWriteBlock regOutput (chunk s.maxChunk f k) s with inflight := some (f, k + 1) }
    else { memWriteBlock regOutput (chunk s.maxChunk f k) s with inflight := none, phase := Phase.read }
  else
    { (memWriteBlock regOutput (chunk s.maxChunk f k) s).raiseError (busIOFailure .write regOutput k) with
      inflight := none, phase := Phase.sleep }

/-- WRITE in the state the worker is in. Without a frame it is R200; an index past the frame's end makes
a request of no bytes, which the port refuses (R123; log 15). -/
def writeBody (s : State) : State :=
  match s.inflight with
  | none => s.badPhase
  | some (f, k) => busRequest (blockOk s regOutput (chunk s.maxChunk f k)) (writeChunk f k) s

/-- WRITE (R192). -/
def execWrite (s : State) : Result := workerStep Phase.write writeBody s

/-- READ in the state the worker is in (R193, R292). -/
def readBody (s : State) : State :=
  match s.nextAnswer with
  | .ok v => { memRead regInput s with curSnapshot := some v, phase := Phase.cmp }
  | .fail => ((memRead regInput s).raiseError (busIOFailure .read regInput 0)).goto Phase.sleep

/-- READ (R193). -/
def execRead (s : State) : Result := workerStep Phase.read readBody s

/-- CMP in the state the worker is in (R194); without a snapshot it is R200. -/
def cmpBody (s : State) : State :=
  match s.curSnapshot with
  | none => s.badPhase
  | some v =>
    { s with events := if v ≠ s.lastSnapshot then edge s.lastSnapshot v else [], phase := Phase.dispatch }

/-- CMP (R194). -/
def execCmp (s : State) : Result := workerStep Phase.cmp cmpBody s

/-- DISPATCH in the state the worker is in (R196). -/
def dispatchBody (s : State) : State :=
  match s.events with
  | [] => s.goto Phase.update
  | e :: rest =>
    match s.handler e.button (Event.kind e) with
    | none => { s with events := rest }
    | some h =>
      { s with
        events := rest, dispatchLog := s.dispatchLog ++ [⟨h, e⟩], call := some ⟨h, e⟩
        phase := Phase.hwait }

/-- DISPATCH (R196). -/
def execDispatch (s : State) : Result := workerStep Phase.dispatch dispatchBody s

/-- The return of the running handler lifts the hold of HWAIT (R197, R244, R245); an exception is raised
first (R293). A return is enabled only while a handler runs that is not itself inside STOP (R244,
R246, R332; log 12). -/
def State.handlerReturns (s : State) (ret : HandlerReturn) : State :=
  match s.call with
  | none => s
  | some inv =>
    if s.phase = Phase.hwait ∧ s.cphase .hctx = CPhase.idle then
      match ret with
      | .ok => { s with call := none, phase := Phase.dispatch }
      | .exc => { s.raiseError (handlerException inv.event) with call := none, phase := Phase.dispatch }
    else s

/-- HWAIT (R197): holds until the handler returns, then goes on as the return says (log 13). -/
def execHwait (ret : Option HandlerReturn) (s : State) : Result :=
  workerStep Phase.hwait
    (fun s => match ret with
      | none => s
      | some r => s.handlerReturns r) s

/-- UPDATE in the state the worker is in (R198); without a snapshot it is R200. -/
def updateBody (s : State) : State :=
  match s.curSnapshot with
  | none => s.badPhase
  | some v => { s with lastSnapshot := v, curSnapshot := none, phase := Phase.sleep }

/-- UPDATE (R198). -/
def execUpdate (s : State) : Result := workerStep Phase.update updateBody s

/-- SLEEP (R199). -/
def execSleep (s : State) : Result := workerStep Phase.sleep (fun s => s.goto Phase.check) s

end Sys2Proof.Machine
end

