-- ==== Sys2Proof/Machine/Environment.lean ====
section
/-! DEFINITION. The meanings of the ENV rows (spec/44_registry.md R243-R245). -/

namespace Sys2Proof.Machine

/-- PUBLISH (R243): the oldest registration replaces its whole slot; enabled only when there is one. -/
def publishBody (s : State) : State :=
  match s.pendingReg with
  | [] => s
  | reg :: rest => { s.setHandler reg.button reg.kind reg.handler with pendingReg := rest }

/-- PUBLISH (R243). -/
def execPublish (s : State) : Result := .next (publishBody s)

/-- RETURN_OK (R244). -/
def execReturnOk (s : State) : Result := .next (s.handlerReturns .ok)

/-- RETURN_EXC (R245). -/
def execReturnExc (s : State) : Result := .next (s.handlerReturns .exc)

end Sys2Proof.Machine
end

