-- ==== Sys2Proof/Machine/Stop.lean ====
section
/-! DEFINITION. The meanings of the CPH rows, the later steps of a STOP (spec/45_lifecycle.md R267-R272).
Each applies only while the agent's `cphase` holds its value. -/

namespace Sys2Proof.Machine

/-- S_DRAIN1 (R267). -/
def execSDrain1 (c : Agent) (s : State) : Result :=
  stopStep c CPhase.sDrain1 (fun s => s.whenDrained (fun s => s.setCphase c CPhase.sPushoff)) s

/-- S_PUSHOFF (R268). -/
def execSPushoff (c : Agent) (s : State) : Result :=
  stopStep c CPhase.sPushoff (fun s => (s.push (offFrame s.params)).setCphase c CPhase.sDrain2) s

/-- S_DRAIN2 (R269). -/
def execSDrain2 (c : Agent) (s : State) : Result :=
  stopStep c CPhase.sDrain2 (fun s => s.whenDrained (fun s => s.setCphase c CPhase.sSignal)) s

/-- S_SIGNAL (R270). -/
def execSSignal (c : Agent) (s : State) : Result :=
  stopStep c CPhase.sSignal (fun s => { s with running := false }.setCphase c CPhase.sJoin) s

/-- S_JOIN once the worker has exited (R271). -/
def joinBody (c : Agent) (s : State) : State :=
  if s.phase = Phase.exited then
    ({ s with lifecycle := .stopped }.setCphase c CPhase.idle).answerTo (.agent c) .done
  else s

/-- S_JOIN (R271). -/
def execSJoin (c : Agent) (s : State) : Result := stopStep c CPhase.sJoin (joinBody c) s

/-- S_WAIT once the first stopper has finished (R272). -/
def waitBody (c : Agent) (s : State) : State :=
  if s.lifecycle = .stopped then (s.setCphase c CPhase.idle).answerTo (.agent c) .done else s

/-- S_WAIT (R272). -/
def execSWait (c : Agent) (s : State) : Result := stopStep c CPhase.sWait (waitBody c) s

end Sys2Proof.Machine
end

