-- ==== Sys2Proof/Machine/Dispatch.lean ====
section
/-! DEFINITION. One arm for each operation: a direct call of its meaning. -/

namespace Sys2Proof.Machine

def exec (i : Instr) (s : State) : Host.Outcome State Fault Refusal :=
  match i with
  | .start c => Sys2Proof.Machine.execStart c s
  | .stop c => Sys2Proof.Machine.execStop c s
  | .setColour c r g b => Sys2Proof.Machine.execSetColour c r g b s
  | .onPress c sel h => Sys2Proof.Machine.execOnPress c sel h s
  | .onRelease c sel h => Sys2Proof.Machine.execOnRelease c sel h s
  | .hostExit => Sys2Proof.Machine.execHostExit s
  | .check => Sys2Proof.Machine.execCheck s
  | .pop => Sys2Proof.Machine.execPop s
  | .write => Sys2Proof.Machine.execWrite s
  | .read => Sys2Proof.Machine.execRead s
  | .cmp => Sys2Proof.Machine.execCmp s
  | .dispatch => Sys2Proof.Machine.execDispatch s
  | .hwait ret => Sys2Proof.Machine.execHwait ret s
  | .update => Sys2Proof.Machine.execUpdate s
  | .sleep => Sys2Proof.Machine.execSleep s
  | .sDrain1 c => Sys2Proof.Machine.execSDrain1 c s
  | .sPushoff c => Sys2Proof.Machine.execSPushoff c s
  | .sDrain2 c => Sys2Proof.Machine.execSDrain2 c s
  | .sSignal c => Sys2Proof.Machine.execSSignal c s
  | .sJoin c => Sys2Proof.Machine.execSJoin c s
  | .sWait c => Sys2Proof.Machine.execSWait c s
  | .push f => Sys2Proof.Machine.execPush f s
  | .tryPop => Sys2Proof.Machine.execTryPop s
  | .drainWait => Sys2Proof.Machine.execDrainWait s
  | .readRegister reg => Sys2Proof.Machine.execReadRegister reg s
  | .writeRegister reg v => Sys2Proof.Machine.execWriteRegister reg v s
  | .writeBlock reg bytes => Sys2Proof.Machine.execWriteBlock reg bytes s
  | .publish => Sys2Proof.Machine.execPublish s
  | .returnOk => Sys2Proof.Machine.execReturnOk s
  | .returnExc => Sys2Proof.Machine.execReturnExc s

end Sys2Proof.Machine
end

