-- ==== Sys2Proof/Machine/Fetch.lean ====
section
/-! DEFINITION. What the machine does next: which stimulus it takes, the packet that stimulus stands for,
and what becomes of a packet that is no operation. -/

namespace Sys2Proof.Machine

/-- The next stimulus: the next of the script, else a free choice of an agent's step (R69; log 3). -/
def State.nextStimulus (s : State) : Stimulus :=
  match s.script with
  | x :: _ => x
  | [] => .agent (Config.schedule s.choices)

/-- Past the stimulus just taken. -/
def State.advance (s : State) : State :=
  { s with script := s.script.tail, choices := s.choices + 1 }

/-- The packet an agent's step stands for: the worker's selector is its phase (R93), a stopping caller's
its `cphase` (R90). -/
def agentPacket (a : AgentStep) (s : State) : Packet :=
  match a with
  | .command c op ops => ⟨.cmd op, c, ops⟩
  | .callerStep c => ⟨.cph (s.cphase c), c, {}⟩
  | .workerStep ret => ⟨.ph s.phase, .host, { ret := ret }⟩
  | .environment env => ⟨.env env, .host, {}⟩

/-- The packet a stimulus stands for. -/
def packetOf (x : Stimulus) (s : State) : Packet :=
  match x with
  | .agent a => agentPacket a s
  | .queuePort qop ops => ⟨.qop qop, .host, ops⟩
  | .busPort bop ops => ⟨.bop bop, .host, ops⟩

/-- The packet that is fetched. -/
def State.fetch (s : State) : Packet := packetOf s.nextStimulus s

/-- What a packet that is no operation does: an undefined selector is refused (R100, R297),
whoever sends it (log 23), a reserved
phase sets the fault bit (R33, R200), an agent without a step takes none, and a request that the
queue port cannot carry stops the machine (log 17). -/
def undecoded (e : DecodeError) (s : State) : Result :=
  match e with
  | .undefinedCommand => .next (s.refuse .undefinedCommand)
  | .undefinedBusOp => .next (s.refuse .undefinedBusOp)
  | .undefinedEnvOp => .next (s.refuse .undefinedEnvOp)
  | .noQueueOp => .next s
  | .noWorkerStep => .next s
  | .reservedPhase => .next s.badPhase
  | .noCallerStep => .next s
  | .reservedCPhase => .next s.badPhase
  | .wrongIssuer => .next s
  | .malformedFrame => .fault .malformedFrame

/-- Makes sure that a caller is one of `Callers` (R15), so that it can take the step placed for it. -/
def State.enlist (s : State) (c : Agent) : State :=
  match c with
  | .caller k =>
    { s with params := { s.params with callers := k :: s.params.callers.filter (fun j => j != k) } }
  | .host => s
  | .hctx => s

/-- Puts a packet where it is fetched next: the worker's phase and a caller's `cphase` are themselves
the selectors of their steps, so these are set, and the caller that takes the step is made one of the
block's agents (log 3). -/
def State.place (s : State) (p : Packet) : State :=
  match p.sel with
  | .cmd op => { s with script := .agent (.command p.issuer op p.operands) :: s.script }.enlist p.issuer
  | .ph phase => { s with script := .agent (.workerStep p.operands.ret) :: s.script, phase := phase }
  | .cph v =>
    ({ s with script := .agent (.callerStep p.issuer) :: s.script }.setCphase p.issuer v).enlist p.issuer
  | .qop qop => { s with script := .queuePort qop p.operands :: s.script }
  | .bop bop => { s with script := .busPort bop p.operands :: s.script }
  | .env env => { s with script := .agent (.environment env) :: s.script }

end Sys2Proof.Machine
end

