-- ==== Sys2Proof/Machine/Step.lean ====
section
/-! DEFINITION. One step: the next stimulus is taken, its packet decoded, and the operation run. -/

namespace Sys2Proof.Machine

/-- One atomic step of one agent (R18, R69). -/
def step (s : State) : Host.Outcome State Fault Refusal :=
  match decode s.fetch with
  | .ok i => exec i s.advance
  | .error e => undecoded e s.advance

/-- The state with a bare table word placed where `step` fetches next. -/
def State.withFetchWord (s : State) (nbits w : Nat) : State := s.place (tablePacket nbits w)

end Sys2Proof.Machine
end

