-- ==== Sys2Proof/Safety.lean ====
section
/-! DEFINITION. What claims about the machine speak of: the end of a run (spec/70_reset_and_hazards.md
R327), what a log shows on the wire (spec/20_memory.md R71), what a step pushes and pops
(spec/42_update_queue.md R175), which operations write which element (spec/10_state.md), and the
invariants of the machine. -/

namespace Sys2Proof.Machine

/-- What one stimulus does in a state: its packet is decoded and the operation run. -/
def State.takes (s : State) (x : Stimulus) : Result :=
  match decode (packetOf x s) with
  | .ok i => exec i s
  | .error e => undecoded e s

/-- A stimulus that is a step of one of the block's agents (R68), and no request put straight on the
queue port or the bus port. -/
def Stimulus.isAgent (x : Stimulus) : Bool :=
  match x with
  | .agent _ => true
  | .queuePort _ _ => false
  | .busPort _ _ => false

/-- Only the block's agents move: every stimulus the script holds is a step of one. -/
def State.agentsOnly (s : State) : Prop := ∀ x ∈ s.script, Stimulus.isAgent x = true

/-- A step an agent takes by itself, not a new command from outside: a further step of STOP, a worker
step with or without the running handler's return, PUBLISH, RETURN_OK or RETURN_EXC. The reserved
`env = 0b11` is no agent's step (R100). -/
def AgentStep.isOwn (a : AgentStep) : Bool :=
  match a with
  | .command _ _ _ => false
  | .callerStep _ => true
  | .workerStep _ => true
  | .environment env => env != 0b11#2

/-- The step is enabled: taking it is not a hold (R18; log 6). -/
def State.enables (s : State) (a : AgentStep) : Prop := s.takes (.agent a) ≠ .next s

/-- The PUBLISH step of the registry publisher (R243). -/
def AgentStep.isPublish (a : AgentStep) : Bool :=
  match a with
  | .environment env => env == 0b00#2
  | .command _ _ _ => false
  | .callerStep _ => false
  | .workerStep _ => false

/-- A step of the worker. -/
def AgentStep.isWorker (a : AgentStep) : Bool :=
  match a with
  | .workerStep _ => true
  | .command _ _ _ => false
  | .callerStep _ => false
  | .environment _ => false

/-- The stimulus is a step of the block's agents of one sort. -/
def Stimulus.isStep (sort : AgentStep → Bool) (x : Stimulus) : Bool :=
  match x with
  | .agent a => sort a
  | .queuePort _ _ => false
  | .busPort _ _ => false

/-- An infinite run: the states `σ` and the stimulus taken in each (R69). `step` takes one such stimulus
at a time (`step_eq_takes`): the script's next, else the free choice `Config.schedule`; a run names
every stimulus itself, so that it stands for any script and any schedule. -/
def IsRun (σ : Nat → State) (x : Nat → Stimulus) : Prop := ∀ n, (σ n).takes (x n) = .next (σ (n + 1))

/-- Weak fairness (R243 "a step that stays enabled is eventually taken"). -/
def WeaklyFair (σ : Nat → State) (x : Nat → Stimulus) (a : AgentStep) (sort : AgentStep → Bool) : Prop :=
  ∀ n, (∀ m, n ≤ m → (σ m).enables a) → ∃ m, n ≤ m ∧ Stimulus.isStep sort (x m) = true

/-- A fair run: weak fairness of PUBLISH and of the worker (R243, R335). The bus environment, the third
agent R335 names, is fair in every run: each transaction is answered in the step that issues it
(R124). A handler may never return (R246), so HWAIT is no enabled step of the worker. -/
structure FairRun (σ : Nat → State) (x : Nat → Stimulus) : Prop where
  run : IsRun σ x
  publish : WeaklyFair σ x (.environment 0b00#2) AgentStep.isPublish
  worker : WeaklyFair σ x (.workerStep none) AgentStep.isWorker

/-- The answer the bus environment gives to the `k`-th transaction from now (R124). -/
def State.answerAt (s : State) (k : Nat) : Answer :=
  (s.answers[k]?).getD (Config.busAnswer (s.draws + k))

/-- The queue has room for one more frame: it is unbounded, or shorter than its capacity (R170, R171). -/
def State.hasRoom (s : State) : Prop :=
  s.params.capacityExtra = none ∨ ∃ j, s.params.capacityExtra = some j ∧ s.queue.length < j + 1

/-- How many records of an error log are BusIOFailures of a WRITE (R292). -/
def writeFailures (log : List ErrRecord) : Nat :=
  (log.filter (fun e => match e.info with
    | .bus .write _ _ => true
    | .bus .read _ _ => false
    | .reg _ => false
    | .channel _ => false
    | .event _ => false)).length

/-- No model fault is recorded (R296). -/
def State.noFault (s : State) : Prop := s.faults = ⟨false, false, false⟩

/-- The end of a run (R327). -/
def State.final (s : State) : Prop :=
  ((s.lifecycle = .stopped ∧ s.phase = Phase.exited) ∨
    (s.lifecycle = .uninitialized ∧ s.phase = Phase.unspawned)) ∧
  (∀ c, s.cphase c = CPhase.idle) ∧ s.call = none ∧ s.pendingReg = [] ∧ s.noFault ∧ s.refused = none

/-- A deadlock: not final, and no agent has an enabled step of its own (R327). -/
def State.stuck (s : State) : Prop :=
  ¬ s.final ∧ ∀ a, AgentStep.isOwn a = true → ¬ s.enables a

/-- The bytes one transaction put on the Output register, if it was a successful block write. -/
def blockBytes (r : BusRecord) : List Byte :=
  match r with
  | .block _ _ bytes true => bytes
  | .block _ _ _ false => []
  | .read _ _ _ => []
  | .write _ _ _ _ => []

/-- `W`: the byte lists of every successful block write of a log, concatenated in log order (R71). -/
def wire (log : List BusRecord) : List Byte := log.flatMap blockBytes

/-- The last frame has been sent: a STOP's S_DRAIN2 has completed, with no frame in flight (R331). -/
def State.lastFrameSent (s : State) : Prop := s.pastFinalDrain = true ∧ s.inflight = none

/-- Whether a transaction is a block write. -/
def isBlockWrite (r : BusRecord) : Bool :=
  match r with
  | .block _ _ _ _ => true
  | .read _ _ _ => false
  | .write _ _ _ _ => false

/-- The block writes of a log, failed ones included, in order. -/
def blockWrites (log : List BusRecord) : List BusRecord := log.filter isBlockWrite

/-- What WRITE logs for a frame of which the first `k` chunks were answered `ok` and, if `failed`, chunk
`k` was answered `fail` (R192). -/
def frameWrites (dev c : Nat) (f : Frame) (k : Nat) (failed : Bool) : List BusRecord :=
  (List.range k).map (fun j => .block dev regOutput (chunk c f j) true) ++
    if failed then [.block dev regOutput (chunk c f k) false] else []

/-- The byte of a successful Input read. -/
def inputByte (r : BusRecord) : Option Byte :=
  match r with
  | .read _ _ (.ok v) => some v
  | .read _ _ .fail => none
  | .write _ _ _ _ => none
  | .block _ _ _ _ => none

/-- The bytes of the successful Input reads of a log, in order (R204). -/
def inputReads (log : List BusRecord) : List Byte := log.filterMap inputByte

/-- The frames an operation appends to the queue (R150, R170, R268). -/
def pushedBy (i : Instr) (s : State) : List Frame :=
  if s.full then [] else
  match i with
  | .push f => [f]
  | .sPushoff c =>
    if s.cphase c = CPhase.sPushoff ∧ s.present c = true then [encodeFrame s.params 0#8 0#8 0#8] else []
  | .setColour c r g b =>
    if s.canIssue c then
      match checkColour r g b with
      | .ok (rb, gb, bb) => [encodeFrame s.params rb gb bb]
      | .error _ => []
    else []
  | _ => []

/-- The frames an operation takes off the queue (R172, R191, R331). -/
def poppedBy (i : Instr) (s : State) : List Frame :=
  match i with
  | .pop => if s.phase = Phase.pop ∧ s.pastFinalDrain = false then s.queue.head?.toList else []
  | .tryPop => s.queue.head?.toList
  | _ => []

/-- The frames `n` steps append to the queue, in step order (R175 `pushed`). -/
def pushedIn (n : Nat) (s : State) : List Frame :=
  match n with
  | 0 => []
  | n + 1 =>
    match decode s.fetch, step s with
    | .ok i, .next t => pushedBy i s.advance ++ pushedIn n t
    | .error _, .next t => pushedIn n t
    | _, _ => []

/-- The frames `n` steps take off the queue, in step order (R175 `popped`). -/
def poppedIn (n : Nat) (s : State) : List Frame :=
  match n with
  | 0 => []
  | n + 1 =>
    match decode s.fetch, step s with
    | .ok i, .next t => poppedBy i s.advance ++ poppedIn n t
    | .error _, .next t => poppedIn n t
    | _, _ => []

/-- The operations that may write `lifecycle` (R21). -/
def writesLifecycle (i : Instr) : Bool :=
  match i with
  | .start _ => true
  | .stop _ => true
  | .hostExit => true
  | .sJoin _ => true
  | _ => false

/-- The operations that may write `running` (R22). -/
def writesRunning (i : Instr) : Bool :=
  match i with
  | .start _ => true
  | .sSignal _ => true
  | _ => false

/-- The operations that may write `queue` (R23). -/
def writesQueue (i : Instr) : Bool :=
  match i with
  | .setColour _ _ _ _ => true
  | .sPushoff _ => true
  | .push _ => true
  | .pop => true
  | .tryPop => true
  | _ => false

/-- The operations that may write `handlers` (R24). -/
def writesHandlers (i : Instr) : Bool :=
  match i with
  | .publish => true
  | _ => false

/-- The operations that may write `pendingReg` (R25). -/
def writesPendingReg (i : Instr) : Bool :=
  match i with
  | .onPress _ _ _ => true
  | .onRelease _ _ _ => true
  | .publish => true
  | _ => false

/-- The operations that may write `phase` (R27). -/
def writesPhase (i : Instr) : Bool :=
  match i with
  | .start _ => true
  | .check => true
  | .pop => true
  | .write => true
  | .read => true
  | .cmp => true
  | .dispatch => true
  | .hwait _ => true
  | .update => true
  | .sleep => true
  | .returnOk => true
  | .returnExc => true
  | _ => false

/-- The operations that may write `lastSnapshot` (R28). -/
def writesLastSnapshot (i : Instr) : Bool :=
  match i with
  | .start _ => true
  | .update => true
  | _ => false

/-- The operations that may write `curSnapshot` (R29). -/
def writesCurSnapshot (i : Instr) : Bool :=
  match i with
  | .start _ => true
  | .read => true
  | .update => true
  | _ => false

/-- The operations that may write `inflight` (R30). -/
def writesInflight (i : Instr) : Bool :=
  match i with
  | .start _ => true
  | .pop => true
  | .write => true
  | _ => false

/-- The operations that may write `events` (R31). -/
def writesEvents (i : Instr) : Bool :=
  match i with
  | .start _ => true
  | .cmp => true
  | .dispatch => true
  | _ => false

/-- The operations that may write `call` (R32). -/
def writesCall (i : Instr) : Bool :=
  match i with
  | .start _ => true
  | .dispatch => true
  | .hwait _ => true
  | .returnOk => true
  | .returnExc => true
  | _ => false

/-- The operations that may write `busLog` (R34). -/
def writesBusLog (i : Instr) : Bool :=
  match i with
  | .start _ => true
  | .write => true
  | .read => true
  | .readRegister _ => true
  | .writeRegister _ _ => true
  | .writeBlock _ _ => true
  | _ => false

/-- The operations that may write `errLog` (R34). -/
def writesErrLog (i : Instr) : Bool :=
  match i with
  | .write => true
  | .read => true
  | .hwait _ => true
  | .returnExc => true
  | _ => false

/-- The operations that may write `dispatchLog` (R34). -/
def writesDispatchLog (i : Instr) : Bool :=
  match i with
  | .dispatch => true
  | _ => false

/-- The operations that may set `fault.illegal_start` (R262). -/
def writesIllegalStart (i : Instr) : Bool :=
  match i with
  | .start _ => true
  | _ => false

/-- The operations that may set `fault.queue_overflow` (R171). -/
def writesOverflow (i : Instr) : Bool :=
  match i with
  | .setColour _ _ _ _ => true
  | .sPushoff _ => true
  | .push _ => true
  | _ => false

/-- The operations that may set `fault.bad_phase` (R200). -/
def writesBadPhase (i : Instr) : Bool :=
  match i with
  | .write => true
  | .cmp => true
  | .update => true
  | _ => false

/-- The operations that may set `refused` (R123, R297). -/
def writesRefused (i : Instr) : Bool :=
  match i with
  | .write => true
  | .readRegister _ => true
  | .writeRegister _ _ => true
  | .writeBlock _ _ => true
  | _ => false

/-- The agent whose `cphase` an operation may write (R33). -/
def cphaseOwner (i : Instr) : Option Agent :=
  match i with
  | .stop c => some c
  | .hostExit => some .host
  | .sDrain1 c => some c
  | .sPushoff c => some c
  | .sDrain2 c => some c
  | .sSignal c => some c
  | .sJoin c => some c
  | .sWait c => some c
  | _ => none

/-- The agents that stand in the steps S_DRAIN1 to S_JOIN of a STOP. -/
def State.stopper (s : State) (c : Agent) : Prop :=
  1 ≤ (s.cphase c).toNat ∧ (s.cphase c).toNat ≤ 5

/-- The invariant of the worker's own state (R27-R32): each of its elements holds a value exactly in the
phases that need it, so that no step meets R200. -/
structure State.WorkerCoherent (s : State) : Prop where
  phase_defined : s.phase.toNat ≤ 9 ∨ s.phase = Phase.unspawned
  inflight_iff : s.inflight.isSome ↔ s.phase = Phase.write
  inflight_index : ∀ f k, s.inflight = some (f, k) → f.length = 128 ∧ k < nchunks s.maxChunk f
  queue_frames : ∀ f ∈ s.queue, f.length = 128
  snapshot_iff : s.curSnapshot.isSome ↔ 4 ≤ s.phase.toNat ∧ s.phase.toNat ≤ 7
  events_phase : s.events ≠ [] → s.phase = Phase.dispatch ∨ s.phase = Phase.hwait
  call_iff : s.call.isSome ↔ s.phase = Phase.hwait
  no_bad_phase : s.faults.badPhase = false

/-- The invariant of the lifecycle and of the callers inside STOP (R21, R22, R33, R265-R272): at most one
agent is stopping, lifecycle, running flag and worker agree, and only an agent that exists is inside
STOP. -/
structure State.LifecycleCoherent (s : State) : Prop where
  unspawned_iff : s.phase = Phase.unspawned ↔ s.lifecycle = .uninitialized
  stopped_exited : s.lifecycle = .stopped → s.phase = Phase.exited
  exited_not_running : s.phase = Phase.exited → s.running = false
  running_iff : s.running = true ↔
    s.lifecycle = .running ∨ ∃ c, 1 ≤ (s.cphase c).toNat ∧ (s.cphase c).toNat ≤ 4
  stopping_iff : s.lifecycle = .stopping ↔ ∃ c, s.stopper c
  one_stopper : ∀ c d, s.stopper c → s.stopper d → c = d
  waiter : ∀ c, s.cphase c = CPhase.sWait → s.lifecycle = .stopping ∨ s.lifecycle = .stopped
  cphase_defined : ∀ c, s.cphase c ≠ 7#3
  blocked_present : ∀ c, s.cphase c ≠ CPhase.idle → s.present c = true

/-- The invariant of the machine. -/
structure State.Coherent (s : State) : Prop where
  worker : s.WorkerCoherent
  lifecycle : s.LifecycleCoherent

/-- The comparator's chain (R204): after START, `last_snapshot` is the last byte read before this cycle's,
or 0xFF where there is none; before START nothing has been read. -/
def State.SnapshotChain (s : State) : Prop :=
  (s.lifecycle = .uninitialized → inputReads s.busLog = []) ∧
  (s.lifecycle ≠ .uninitialized →
    match s.curSnapshot with
    | none => s.lastSnapshot = (inputReads s.busLog).getLastD 0xFF#8
    | some v => ∃ rs, inputReads s.busLog = rs ++ [v] ∧ s.lastSnapshot = rs.getLastD 0xFF#8)

/-- What a handler that has called STOP waits in: the worker in HWAIT for it, it in S_DRAIN2 for the
worker (R332). -/
def State.handlerStopDeadlock (s : State) : Prop :=
  s.phase = Phase.hwait ∧ s.call.isSome = true ∧ s.cphase .hctx = CPhase.sDrain2 ∧ s.queue ≠ [] ∧
    s.lifecycle ≠ .uninitialized

end Sys2Proof.Machine
end

