-- ==== Sys2Proof/Certificates/Slice0/Obligations.lean ====
section
/-! DEFINITION. The statements for the provers. Each names the rule of spec/ it formalises; "derived" ones
rest on the sections they name. A hypothesis `s.present c = true` says that the agent is one of the
block's: a caller that `Callers` names (R15), the handler context while a handler runs (R246), the
host. The fields `reply` (log 7), `answers` and `draws`
(log 4), `script` and `choices` (log 3) are the model's own carriers of a return value, of the bus
environment's answers and of the schedule: a clause that fixes one is the model's, not the spec's. -/

open Sys2Proof Sys2Proof.Machine

/-! ## Encoding -/

/-- O1 (R91, R92, R27, R33): every selector value of the tables, with every operand, decodes to its row's
operation, and PUSH of a list that is not 128 bytes is no request (log 17). -/
def Obligations.TableWordsDecode : Prop :=
  ∀ (c : Agent) (x : Operands), c ≠ .host →
    (decode ⟨.cmd 0x01#8, c, x⟩ = .ok (.start c) ∧
      decode ⟨.cmd 0x02#8, c, x⟩ = .ok (.stop c) ∧
      decode ⟨.cmd 0x03#8, c, x⟩ = .ok (.setColour c x.r x.g x.b) ∧
      decode ⟨.cmd 0x04#8, c, x⟩ = .ok (.onPress c x.sel x.handler) ∧
      decode ⟨.cmd 0x05#8, c, x⟩ = .ok (.onRelease c x.sel x.handler) ∧
      decode ⟨.cmd 0x06#8, .host, x⟩ = .ok .hostExit) ∧
    (decode ⟨.ph 0b0000#4, c, x⟩ = .ok .check ∧
      decode ⟨.ph 0b0001#4, c, x⟩ = .ok .pop ∧
      decode ⟨.ph 0b0010#4, c, x⟩ = .ok .write ∧
      decode ⟨.ph 0b0011#4, c, x⟩ = .ok .read ∧
      decode ⟨.ph 0b0100#4, c, x⟩ = .ok .cmp ∧
      decode ⟨.ph 0b0101#4, c, x⟩ = .ok .dispatch ∧
      decode ⟨.ph 0b0110#4, c, x⟩ = .ok (.hwait x.ret) ∧
      decode ⟨.ph 0b0111#4, c, x⟩ = .ok .update ∧
      decode ⟨.ph 0b1000#4, c, x⟩ = .ok .sleep) ∧
    (∀ d : Agent,
      decode ⟨.cph 0b001#3, d, x⟩ = .ok (.sDrain1 d) ∧
      decode ⟨.cph 0b010#3, d, x⟩ = .ok (.sPushoff d) ∧
      decode ⟨.cph 0b011#3, d, x⟩ = .ok (.sDrain2 d) ∧
      decode ⟨.cph 0b100#3, d, x⟩ = .ok (.sSignal d) ∧
      decode ⟨.cph 0b101#3, d, x⟩ = .ok (.sJoin d) ∧
      decode ⟨.cph 0b110#3, d, x⟩ = .ok (.sWait d)) ∧
    ((x.frame.length = 128 → decode ⟨.qop 0b01#2, c, x⟩ = .ok (.push x.frame)) ∧
      (x.frame.length ≠ 128 → decode ⟨.qop 0b01#2, c, x⟩ = .error .malformedFrame) ∧
      decode ⟨.qop 0b10#2, c, x⟩ = .ok .tryPop ∧
      decode ⟨.qop 0b11#2, c, x⟩ = .ok .drainWait) ∧
    (decode ⟨.bop 0b00#2, c, x⟩ = .ok (.readRegister x.reg) ∧
      decode ⟨.bop 0b01#2, c, x⟩ = .ok (.writeRegister x.reg x.value) ∧
      decode ⟨.bop 0b10#2, c, x⟩ = .ok (.writeBlock x.reg x.bytes)) ∧
    (decode ⟨.env 0b00#2, c, x⟩ = .ok .publish ∧
      decode ⟨.env 0b01#2, c, x⟩ = .ok .returnOk ∧
      decode ⟨.env 0b10#2, c, x⟩ = .ok .returnExc)

/-- O2: every well-formed operation, with every operand at every value, is read back from its packet. -/
def Obligations.DecodeOfEncode : Prop :=
  ∀ i : Instr, i.wellFormed = true → decode (encode i) = .ok i

/-- O3 (R100, R101): what a packet decodes to is well formed, carries the packet's own selector, and for a
command or a STOP step names the packet's own issuer; so no selector value falls through to a
neighbour's operation. -/
def Obligations.DecodeKeepsSelector : Prop :=
  ∀ (p : Packet) (i : Instr), decode p = .ok i →
    i.wellFormed = true ∧ (encode i).sel = p.sel ∧
    (∀ op, p.sel = .cmd op → (encode i).issuer = p.issuer) ∧
    (∀ v, p.sel = .cph v → (encode i).issuer = p.issuer)

/-- O4 (R100, R297): an undefined CMD, BOP or ENV value is refused by its name, and the state is otherwise
unchanged. That an undefined CMD is refused whoever sends it, also an agent that may issue no command,
is the model's reading (log 23). -/
def Obligations.UndefinedSelectorsRefused : Prop :=
  ∀ s : State, s.refused = none →
    (∀ c op ops, op.toNat = 0 ∨ 7 ≤ op.toNat →
      s.takes (.agent (.command c op ops)) = .next { s with refused := some .undefinedCommand }) ∧
    (∀ ops, s.takes (.busPort 0b11#2 ops) = .next { s with refused := some .undefinedBusOp }) ∧
    s.takes (.agent (.environment 0b11#2)) = .next { s with refused := some .undefinedEnvOp }

/-- O5 (R33, R100, R200; log 10): a reserved phase or `cphase` sets `fault.bad_phase`, and its agent stays
where it is: its next attempt changes nothing more. A step that finds no snapshot or no frame where it
needs one does the same. -/
def Obligations.UnreachableStatesSetBadPhase : Prop :=
  ∀ s t : State,
    (∀ ret, 10 ≤ s.phase.toNat → s.phase.toNat ≤ 14 →
      s.takes (.agent (.workerStep ret)) =
        .next { s with faults := { s.faults with badPhase := true } } ∧
      (s.takes (.agent (.workerStep ret)) = .next t → t.takes (.agent (.workerStep ret)) = .next t)) ∧
    (∀ c, s.cphase c = 7#3 →
      s.takes (.agent (.callerStep c)) = .next { s with faults := { s.faults with badPhase := true } } ∧
      (s.takes (.agent (.callerStep c)) = .next t → t.takes (.agent (.callerStep c)) = .next t)) ∧
    (s.curSnapshot = none → s.phase = Phase.cmp →
      exec .cmp s = .next { s with faults := { s.faults with badPhase := true } }) ∧
    (s.curSnapshot = none → s.phase = Phase.update →
      exec .update s = .next { s with faults := { s.faults with badPhase := true } }) ∧
    (s.inflight = none → s.phase = Phase.write →
      exec .write s = .next { s with faults := { s.faults with badPhase := true } })

/-- O6 (R27, R33, R92): a worker that is EXITED or UNSPAWNED, an IDLE caller and `qop = 0b00` take no
step. -/
def Obligations.AgentsWithoutStepHold : Prop :=
  ∀ s : State,
    (∀ ret, s.phase = Phase.exited ∨ s.phase = Phase.unspawned →
      s.takes (.agent (.workerStep ret)) = .next s) ∧
    (∀ c, s.cphase c = CPhase.idle → s.takes (.agent (.callerStep c)) = .next s) ∧
    (∀ ops, s.takes (.queuePort 0b00#2 ops) = .next s)

/-- O7 (R93, logs 3 and 6): a step takes the next stimulus off the script, or a free choice of an agent's
step where there is none, and runs the operation its packet decodes to; the worker's selector is its
phase, a stopping caller's its `cphase`. -/
def Obligations.StepRunsDecoded : Prop :=
  ∀ s : State,
    (∀ i, decode s.fetch = .ok i →
      step s = exec i { s with script := s.script.tail, choices := s.choices + 1 }) ∧
    (∀ x rest, s.script = x :: rest → s.fetch = packetOf x s) ∧
    (s.script = [] → s.fetch = packetOf (.agent (Config.schedule s.choices)) s) ∧
    (∀ ret, packetOf (.agent (.workerStep ret)) s = ⟨.ph s.phase, .host, { ret := ret }⟩) ∧
    (∀ c, packetOf (.agent (.callerStep c)) s = ⟨.cph (s.cphase c), c, {}⟩)

/-! ## The encoder -/

/-- O8 (R142): the closed form of SER, and the data line does not change in the byte where the clock
rises. -/
def Obligations.SerClosedForm : Prop :=
  ∀ (x : Byte),
    (∀ j : Nat, j < 16 →
      (ser x)[j]? = some ((((x >>> (7 - (j >>> 1))) &&& 1#8) <<< 7) |||
        (BitVec.ofNat 8 (j &&& 1) <<< 6))) ∧
    (∀ k : Nat, k < 8 →
      ((ser x)[2 * k]?).map (fun y => y.getLsbD 7) = some (x.getLsbD (7 - k)) ∧
      ((ser x)[2 * k + 1]?).map (fun y => y.getLsbD 7) = some (x.getLsbD (7 - k)))

/-- O9 (R145): the layout of a frame, byte by byte, and its length. -/
def Obligations.FrameLayout : Prop :=
  ∀ (p : Params) (rb gb bb : Byte),
    (encodeFrame p rb gb bb).length = 128 ∧
    ∀ j : Nat, j < 128 →
      (encodeFrame p rb gb bb)[j]? =
        some (((((([0x00#8, 0x00#8, 0xEF#8, p.gammaTable[bb.toNat], p.gammaTable[gb.toNat],
            p.gammaTable[rb.toNat], 0x00#8, 0x00#8] : List Byte).getD (j >>> 4) 0#8)
              >>> (7 - ((j >>> 1) &&& 7))) &&& 1#8) <<< 7) ||| (BitVec.ofNat 8 (j &&& 1) <<< 6))

/-- O10 (R148): the invariants of every frame the encoder makes, `OFF_FRAME` included. -/
def Obligations.FrameInvariants : Prop :=
  ∀ (p : Params) (rb gb bb : Byte),
    (encodeFrame p rb gb bb)[0]? = some 0x00#8 ∧
    (encodeFrame p rb gb bb)[127]? = some 0x40#8 ∧
    (∀ (j : Nat) (y : Byte), (encodeFrame p rb gb bb)[j]? = some y →
      y.getLsbD 6 = decide (j % 2 = 1) ∧ y &&& 0x3F#8 = 0#8) ∧
    ((encodeFrame p rb gb bb).filter (fun y => y.getLsbD 6)).length = 64 ∧
    (encodeFrame p rb gb bb).take 32 = (List.replicate 16 [0x00#8, 0x40#8]).flatten ∧
    (encodeFrame p rb gb bb).drop 96 = (List.replicate 16 [0x00#8, 0x40#8]).flatten ∧
    ((encodeFrame p rb gb bb).drop 32).take 16 = ser 0xEF#8 ∧
    offFrame p = encodeFrame p 0#8 0#8 0#8

/-- O11 (R146): the validation of a colour: the first invalid channel in r, g, b order, else the three
bytes; a valid operand `Int n` becomes the byte `n`; and the channels' codes. -/
def Obligations.ColourValidation : Prop :=
  ∀ r g b : ChanVal,
    (∀ v : ChanVal, channelByte v = none ↔ ∀ n : Int, v = .int n → n < 0 ∨ 255 < n) ∧
    (∀ n : Int, 0 ≤ n → n ≤ 255 → ∃ y, channelByte (.int n) = some y ∧ (y.toNat : Int) = n) ∧
    (channelByte r = none → checkColour r g b = .error .r) ∧
    (channelByte r ≠ none → channelByte g = none → checkColour r g b = .error .g) ∧
    (channelByte r ≠ none → channelByte g ≠ none → channelByte b = none →
      checkColour r g b = .error .b) ∧
    (∀ rb gb bb, channelByte r = some rb → channelByte g = some gb → channelByte b = some bb →
      checkColour r g b = .ok (rb, gb, bb)) ∧
    Channel.code .r = 0 ∧ Channel.code .g = 1 ∧ Channel.code .b = 2

/-- O12 (R99): the button mask of a selector. -/
def Obligations.SelectorMask : Prop :=
  selMask .all = 0b11111#5 ∧
  (∀ b : ButtonId, selMask (.one b) = 1#5 <<< b.val) ∧
  (∀ (S : Vector Bool 5) (b : ButtonId), (selMask (.set S)).getLsbD b.val = S[b]) ∧
  selMask (.set (Vector.replicate 5 false)) = 0#5

/-- O13 (R125): the chunks of a frame, for every cap: their number, their lengths, and that together they
are the frame. -/
def Obligations.ChunksOfFrame : Prop :=
  ∀ (c : Nat) (f : Frame), 1 ≤ c →
    f.length ≤ nchunks c f * c ∧ nchunks c f * c < f.length + c ∧
    (List.range (nchunks c f)).flatMap (chunk c f) = f ∧
    (∀ k, k < nchunks c f →
      chunk c f k = (f.take (min ((k + 1) * c) f.length)).drop (k * c) ∧
      (k + 1 < nchunks c f → (chunk c f k).length = c) ∧
      (k + 1 = nchunks c f → (chunk c f k).length = f.length - (nchunks c f - 1) * c ∧
        1 ≤ (chunk c f k).length ∧ (chunk c f k).length ≤ c))

/-! ## The comparator -/

/-- O14 (R195): EDGE against its rule and against the five parallel lanes, in ascending button order. -/
def Obligations.EdgeComparator : Prop :=
  ∀ (prev curr : Byte),
    (∀ i : ButtonId,
      ((⟨i, true⟩ : Event) ∈ edge prev curr ↔
        prev.getLsbD i.val = true ∧ curr.getLsbD i.val = false) ∧
      ((⟨i, false⟩ : Event) ∈ edge prev curr ↔
        prev.getLsbD i.val = false ∧ curr.getLsbD i.val = true) ∧
      (pressMask prev curr).getLsbD i.val = decide ((⟨i, true⟩ : Event) ∈ edge prev curr) ∧
      (releaseMask prev curr).getLsbD i.val = decide ((⟨i, false⟩ : Event) ∈ edge prev curr)) ∧
    (∀ i : Nat, 5 ≤ i →
      (pressMask prev curr).getLsbD i = false ∧ (releaseMask prev curr).getLsbD i = false) ∧
    (edge prev curr).Pairwise (fun a b => a.button < b.button)

/-- O15 (R201): at most one event per button, and the two masks never share a bit. -/
def Obligations.OneEdgePerButton : Prop :=
  ∀ (prev curr : Byte),
    pressMask prev curr &&& releaseMask prev curr = 0#8 ∧
    ∀ e ∈ edge prev curr, ∀ d ∈ edge prev curr, e.button = d.button → e = d

/-- O16 (R202): the guard of CMP is redundant: the events after CMP are EDGE of the two snapshots whether
or not it is taken, and EDGE reads bits 4..0 alone. -/
def Obligations.CmpGuardRedundant : Prop :=
  (∀ p : Byte, edge p p = []) ∧
  (∀ p c q d : Byte, p &&& 0x1F#8 = q &&& 0x1F#8 → c &&& 0x1F#8 = d &&& 0x1F#8 →
    edge p c = edge q d) ∧
  (∀ (s : State) (v : Byte), s.phase = Phase.cmp → s.curSnapshot = some v →
    exec .cmp s = .next { s with events := edge s.lastSnapshot v, phase := Phase.dispatch })

/-! ## Commands -/

/-- O17 (R260, R261; logs 4, 7): START from Uninitialized, every configuration write answered `ok`: the three writes
in order, then the spawn. Nothing else changes: the queue, the handler table and the registrations
are kept. -/
def Obligations.StartSpawnsWorker : Prop :=
  ∀ (s : State) (c : Agent), s.canIssue c = true → s.lifecycle = .uninitialized →
    (∀ k, k < 3 → Answer.isOk (s.answerAt k) = true) →
    exec (.start c) s = .next { s with
      busLog := s.busLog ++ [.write s.params.deviceAddr 0x01#8 0x00#8 true,
        .write s.params.deviceAddr 0x02#8 s.params.polWord true,
        .write s.params.deviceAddr 0x03#8 s.params.dirWord true]
      answers := s.answers.drop 3, draws := s.draws + 3
      lastSnapshot := 0xFF#8, curSnapshot := none, inflight := none, events := [], call := none
      running := true, phase := Phase.check, lifecycle := .running
      reply := some (.agent c, .ok) }

/-- O18 (R264; logs 4, 7): when configuration write `#(i+1)` fails, the writes up to it stay in the log, the error goes
to the caller, and nothing else changes. -/
def Obligations.StartConfigurationFailure : Prop :=
  ∀ (s : State) (c : Agent) (i : Nat), s.canIssue c = true → s.lifecycle = .uninitialized → i < 3 →
    (∀ k, k < i → Answer.isOk (s.answerAt k) = true) → s.answerAt i = .fail →
    exec (.start c) s = .next { s with
      busLog := s.busLog ++
        (([(0x01#8, 0x00#8), (0x02#8, s.params.polWord), (0x03#8, s.params.dirWord)] :
          List (Byte × Byte)).take i).map
            (fun w => .write s.params.deviceAddr w.1 w.2 true) ++
        [.write s.params.deviceAddr
          (([0x01#8, 0x02#8, 0x03#8] : List Byte).getD i 0#8)
          (([0x00#8, s.params.polWord, s.params.dirWord] : List Byte).getD i 0#8) false]
      answers := s.answers.drop (i + 1), draws := s.draws + (i + 1)
      reply := some (.agent c, .err ⟨1, .reg (([0x01#8, 0x02#8, 0x03#8] : List Byte).getD i 0#8)⟩) }

/-- O19 (R262): START outside Uninitialized sets `fault.illegal_start`, issues no bus transaction and
changes nothing else of the block. -/
def Obligations.IllegalStart : Prop :=
  ∀ (s : State) (c : Agent), s.canIssue c = true → s.lifecycle ≠ .uninitialized →
    exec (.start c) s = .next { s with
      faults := { s.faults with illegalStart := true }, reply := some (.agent c, .done) }

/-- O20 (R265, R266, R273): the entry step of STOP in each lifecycle state, for a caller and, by HOST_EXIT,
for the host. -/
def Obligations.StopEntry : Prop :=
  ∀ (s : State) (i : Instr) (c : Agent), s.canIssue c = true →
    (i = .stop c ∨ (i = .hostExit ∧ c = .host)) →
    (s.lifecycle = .stopped ∨ s.lifecycle = .uninitialized →
      exec i s = .next { s with reply := some (.agent c, .done) }) ∧
    (s.lifecycle = .stopping → ∃ t, exec i s = .next t ∧ t.cphase c = 6#3 ∧
      (∀ d, d ≠ c → t.cphase d = s.cphase d) ∧ { t with cphases := s.cphases } = s) ∧
    (s.lifecycle = .running → ∃ t, exec i s = .next t ∧ t.cphase c = 1#3 ∧
      (∀ d, d ≠ c → t.cphase d = s.cphase d) ∧
      { t with cphases := s.cphases } = { s with lifecycle := .stopping })

/-- O21 (R144, R150, R170): SET_COLOUR of three valid channels pushes their frame, in every lifecycle
state, and changes nothing else of the block. -/
def Obligations.SetColourPushes : Prop :=
  ∀ (s : State) (c : Agent) (r g b : Int), s.canIssue c = true → s.hasRoom →
    0 ≤ r → r ≤ 255 → 0 ≤ g → g ≤ 255 → 0 ≤ b → b ≤ 255 →
    exec (.setColour c (.int r) (.int g) (.int b)) s = .next { s with
      queue := s.queue ++ [encodeFrame s.params (BitVec.ofInt 8 r) (BitVec.ofInt 8 g) (BitVec.ofInt 8 b)]
      reply := some (.agent c, .ok) }

/-- O22 (R294): an invalid colour changes no block state: the error with its code and channel is returned
to the caller, and that is all. -/
def Obligations.InvalidColourChangesNothing : Prop :=
  ∀ (s : State) (c : Agent) (r g b : ChanVal) (ch : Channel), s.canIssue c = true →
    checkColour r g b = .error ch →
    exec (.setColour c r g b) s =
      .next { s with reply := some (.agent c, .err ⟨3, .channel ch⟩) }

/-- O23 (R171): a PUSH to a queue at its finite capacity sets `fault.queue_overflow` and leaves the queue
unchanged, from the queue port, from SET_COLOUR and from S_PUSHOFF. -/
def Obligations.QueueOverflow : Prop :=
  ∀ (s : State) (j : Nat), s.params.capacityExtra = some j → j + 1 ≤ s.queue.length →
    (∀ f, exec (.push f) s = .next { s with
      faults := { s.faults with queueOverflow := true }, reply := some (.port, .done) }) ∧
    (∀ c r g b bytes, s.canIssue c = true → checkColour r g b = .ok bytes →
      exec (.setColour c r g b) s = .next { s with
        faults := { s.faults with queueOverflow := true }, reply := some (.agent c, .ok) }) ∧
    (∀ c, s.cphase c = 2#3 → s.present c = true → ∃ t, exec (.sPushoff c) s = .next t ∧
      t.queue = s.queue ∧ t.faults = { s.faults with queueOverflow := true } ∧ t.cphase c = 3#3)

/-- O24 (R240, R241): a registration appends one entry for each selected button, lowest first, of its own
kind, and changes nothing else of the block. -/
def Obligations.RegistrationAppends : Prop :=
  ∀ (s : State) (c : Agent) (sel : ButtonSel) (h : HandlerRef), s.canIssue c = true →
    exec (.onPress c sel h) s = .next { s with
      pendingReg := s.pendingReg ++
        (([0, 1, 2, 3, 4] : List ButtonId).filter (fun b => (selMask sel).getLsbD b.val)).map
          (fun b => ⟨b, .press, h⟩)
      reply := some (.agent c, .done) } ∧
    exec (.onRelease c sel h) s = .next { s with
      pendingReg := s.pendingReg ++
        (([0, 1, 2, 3, 4] : List ButtonId).filter (fun b => (selMask sel).getLsbD b.val)).map
          (fun b => ⟨b, .release, h⟩)
      reply := some (.agent c, .done) }

/-- O25 (R15, R33, R91, R246; logs 6, 11, 12): an agent inside STOP, a handler context while no handler
runs, or a caller that `Callers` does not name issues no command: nothing happens. -/
def Obligations.BlockedAgentIssuesNothing : Prop :=
  ∀ (s : State) (c : Agent),
    s.cphase c ≠ CPhase.idle ∨ (c = .hctx ∧ s.call = none) ∨
      (∃ k, c = .caller k ∧ k ∉ s.params.callers) →
    exec (.start c) s = .next s ∧ exec (.stop c) s = .next s ∧
    (∀ r g b, exec (.setColour c r g b) s = .next s) ∧
    (∀ sel h, exec (.onPress c sel h) s = .next s ∧ exec (.onRelease c sel h) s = .next s) ∧
    (c = .host → exec .hostExit s = .next s)

/-! ## The worker -/

/-- O26 (R190): CHECK goes on while the running flag is set and exits when it is not; it is the only
operation that leads to EXITED, and EXITED decodes to no step. -/
def Obligations.CheckTestsRunning : Prop :=
  ∀ s : State,
    (s.phase = Phase.check → s.running = true → exec .check s = .next { s with phase := Phase.pop }) ∧
    (s.phase = Phase.check → s.running = false →
      exec .check s = .next { s with phase := Phase.exited }) ∧
    (∀ i t, exec i s = .next t → s.phase ≠ Phase.exited → t.phase = Phase.exited → i = .check) ∧
    (∀ x : Operands, decode ⟨.ph Phase.exited, .host, x⟩ = .error .noWorkerStep)

/-- O27 (R191, R172, R331; log 24): POP takes the oldest frame, or goes on to READ on an empty queue. Once
the S_DRAIN2 step of a STOP has completed, it leaves the frames pushed since where they are; that R331
is an exception to R191 is the model's reading. -/
def Obligations.PopTakesOldest : Prop :=
  ∀ s : State, s.phase = Phase.pop →
    (∀ f q, s.queue = f :: q → s.lifecycle ≠ .stopped →
      (∀ c, s.cphase c ≠ CPhase.sSignal ∧ s.cphase c ≠ CPhase.sJoin) →
      exec .pop s = .next { s with queue := q, inflight := some (f, 0), phase := Phase.write }) ∧
    (s.queue = [] → exec .pop s = .next { s with phase := Phase.read }) ∧
    (s.lifecycle = .stopped ∨ (∃ c, s.cphase c = CPhase.sSignal ∨ s.cphase c = CPhase.sJoin) →
      exec .pop s = .next { s with phase := Phase.read })

/-- O28 (R192, R122, R125; log 4): WRITE with the answer `ok` writes its chunk to the Output register, then goes
to the next chunk or, after the last, to READ with no frame in flight. -/
def Obligations.WriteChunkOk : Prop :=
  ∀ (s : State) (f : Frame) (k : Nat), s.phase = Phase.write → s.inflight = some (f, k) →
    k < nchunks s.maxChunk f → Answer.isOk s.nextAnswer = true →
    exec .write s = .next { s with
      busLog := s.busLog ++
        [.block s.params.deviceAddr 0x01#8 ((f.drop (k * s.maxChunk)).take s.maxChunk) true]
      answers := s.answers.tail, draws := s.draws + 1
      inflight := if k + 1 < nchunks s.maxChunk f then some (f, k + 1) else none
      phase := if k + 1 < nchunks s.maxChunk f then Phase.write else Phase.read }

/-- O29 (R292; log 4): BusIOFailure of a WRITE and of a READ: the record with code 2, the rest of the frame
abandoned, the rest of the cycle skipped, and nothing else changed. -/
def Obligations.BusFailureInWorker : Prop :=
  ∀ s : State, s.nextAnswer = .fail →
    (∀ f k, s.phase = Phase.write → s.inflight = some (f, k) → k < nchunks s.maxChunk f →
      exec .write s = .next { s with
        busLog := s.busLog ++
          [.block s.params.deviceAddr 0x01#8 ((f.drop (k * s.maxChunk)).take s.maxChunk) false]
        answers := s.answers.tail, draws := s.draws + 1
        errLog := s.errLog ++ [⟨2, .bus .write 0x01#8 k⟩]
        inflight := none, phase := Phase.sleep }) ∧
    (s.phase = Phase.read →
      exec .read s = .next { s with
        busLog := s.busLog ++ [.read s.params.deviceAddr 0x00#8 .fail]
        answers := s.answers.tail, draws := s.draws + 1
        errLog := s.errLog ++ [⟨2, .bus .read 0x00#8 0⟩]
        phase := Phase.sleep })

/-- O30 (R193; log 4): READ with the answer `ok v`, for every byte `v`. -/
def Obligations.ReadSamplesInput : Prop :=
  ∀ (s : State) (v : Byte), s.phase = Phase.read → s.nextAnswer = .ok v →
    exec .read s = .next { s with
      busLog := s.busLog ++ [.read s.params.deviceAddr 0x00#8 (.ok v)]
      answers := s.answers.tail, draws := s.draws + 1
      curSnapshot := some v, phase := Phase.cmp }

/-- O31 (R196): DISPATCH: the end of the events, an event whose slot holds no handler, and the invocation
of a handler, read from the slot at this step. -/
def Obligations.DispatchInvokes : Prop :=
  ∀ s : State, s.phase = Phase.dispatch →
    (s.events = [] → exec .dispatch s = .next { s with phase := Phase.update }) ∧
    (∀ b p rest, s.events = ⟨b, p⟩ :: rest →
      (s.handler b (if p then .press else .release) = none →
        exec .dispatch s = .next { s with events := rest }) ∧
      (∀ h, s.handler b (if p then .press else .release) = some h →
        exec .dispatch s = .next { s with
          events := rest, dispatchLog := s.dispatchLog ++ [⟨h, ⟨b, p⟩⟩]
          call := some ⟨h, ⟨b, p⟩⟩, phase := Phase.hwait }))

/-- O32 (R197, R244, R245, R293): the return of a handler that is not itself inside STOP lifts the hold, by
an environment step or sampled by the worker's HWAIT step; an exception appends its record with code 4.
The operand of HWAIT is the model's form (log 13). -/
def Obligations.HandlerReturnLiftsHold : Prop :=
  ∀ (s : State) (inv : Invocation), s.phase = Phase.hwait → s.call = some inv →
    s.cphase .hctx = CPhase.idle →
    (∀ i, i = .returnOk ∨ i = .hwait (some .ok) →
      exec i s = .next { s with call := none, phase := Phase.dispatch }) ∧
    (∀ i, i = .returnExc ∨ i = .hwait (some .exc) →
      exec i s = .next { s with
        errLog := s.errLog ++ [⟨4, .event inv.event⟩], call := none, phase := Phase.dispatch })

/-- O33 (R197, R332, and "Every step rule applies only when `phase` holds the step's value"; logs 6 and 12):
the worker holds in HWAIT while the handler has not returned, a handler inside STOP cannot return, and
a worker step whose phase is not the worker's changes nothing. -/
def Obligations.WorkerStepsHold : Prop :=
  ∀ s : State,
    exec (.hwait none) s = .next s ∧
    (s.phase ≠ Phase.hwait ∨ s.call = none ∨ s.cphase .hctx ≠ CPhase.idle →
      exec .returnOk s = .next s ∧ exec .returnExc s = .next s ∧
      ∀ ret, exec (.hwait ret) s = .next s) ∧
    (s.phase ≠ Phase.check → exec .check s = .next s) ∧
    (s.phase ≠ Phase.pop → exec .pop s = .next s) ∧
    (s.phase ≠ Phase.write → exec .write s = .next s) ∧
    (s.phase ≠ Phase.read → exec .read s = .next s) ∧
    (s.phase ≠ Phase.cmp → exec .cmp s = .next s) ∧
    (s.phase ≠ Phase.dispatch → exec .dispatch s = .next s) ∧
    (s.phase ≠ Phase.update → exec .update s = .next s) ∧
    (s.phase ≠ Phase.sleep → exec .sleep s = .next s)

/-- O34 (R198, R199): UPDATE stores the whole byte, bits 5..7 included; SLEEP is one step, to CHECK. -/
def Obligations.UpdateAndSleep : Prop :=
  ∀ s : State,
    (∀ v, s.phase = Phase.update → s.curSnapshot = some v →
      exec .update s =
        .next { s with lastSnapshot := v, curSnapshot := none, phase := Phase.sleep }) ∧
    (s.phase = Phase.sleep → exec .sleep s = .next { s with phase := Phase.check })

/-! ## The later steps of STOP -/

/-- O36 (R267, R269, R174): S_DRAIN1 and S_DRAIN2 complete in the step that finds the queue empty and no
frame in flight, and hold until then. -/
def Obligations.DrainSteps : Prop :=
  ∀ (s : State) (c : Agent), s.present c = true →
    (s.queue = [] → s.inflight = none → s.cphase c = 1#3 → ∃ t, exec (.sDrain1 c) s = .next t ∧
      t.cphase c = 2#3 ∧ (∀ d, d ≠ c → t.cphase d = s.cphase d) ∧ { t with cphases := s.cphases } = s) ∧
    (s.queue = [] → s.inflight = none → s.cphase c = 3#3 → ∃ t, exec (.sDrain2 c) s = .next t ∧
      t.cphase c = 4#3 ∧ (∀ d, d ≠ c → t.cphase d = s.cphase d) ∧ { t with cphases := s.cphases } = s) ∧
    (s.queue ≠ [] ∨ s.inflight ≠ none →
      exec (.sDrain1 c) s = .next s ∧ exec (.sDrain2 c) s = .next s)

/-- O37 (R268, R270): S_PUSHOFF pushes the frame of r = g = b = 0 and goes to S_DRAIN2 in one step; the
push is that of R170, which a full queue does not take. S_SIGNAL clears the running flag and goes to
S_JOIN in one step. -/
def Obligations.PushOffAndSignal : Prop :=
  ∀ (s : State) (c : Agent), s.present c = true →
    (s.cphase c = 2#3 → ∃ t, exec (.sPushoff c) s = .next t ∧ t.cphase c = 3#3 ∧
      (∀ d, d ≠ c → t.cphase d = s.cphase d) ∧
      (s.hasRoom → { t with cphases := s.cphases } =
        { s with queue := s.queue ++ [encodeFrame s.params 0#8 0#8 0#8] }) ∧
      (¬ s.hasRoom → { t with cphases := s.cphases } =
        { s with faults := { s.faults with queueOverflow := true } })) ∧
    (s.cphase c = 4#3 → ∃ t, exec (.sSignal c) s = .next t ∧ t.running = false ∧ t.cphase c = 5#3 ∧
      (∀ d, d ≠ c → t.cphase d = s.cphase d) ∧
      { t with cphases := s.cphases, running := s.running } = s)

/-- O39 (R271, R272): S_JOIN completes in the step that finds the worker EXITED, S_WAIT in the step that
finds the lifecycle Stopped; until then they hold. -/
def Obligations.JoinAndWait : Prop :=
  ∀ (s : State) (c : Agent), s.present c = true →
    (s.cphase c = 5#3 → s.phase = Phase.exited → ∃ t, exec (.sJoin c) s = .next t ∧
      t.lifecycle = .stopped ∧ t.cphase c = 0#3 ∧ (∀ d, d ≠ c → t.cphase d = s.cphase d) ∧
      t.reply = some (.agent c, .done) ∧
      { t with cphases := s.cphases, lifecycle := s.lifecycle, reply := s.reply } = s) ∧
    (s.phase ≠ Phase.exited → exec (.sJoin c) s = .next s) ∧
    (s.cphase c = 6#3 → s.lifecycle = .stopped → ∃ t, exec (.sWait c) s = .next t ∧
      t.cphase c = 0#3 ∧ (∀ d, d ≠ c → t.cphase d = s.cphase d) ∧
      t.reply = some (.agent c, .done) ∧ { t with cphases := s.cphases, reply := s.reply } = s) ∧
    (s.lifecycle ≠ .stopped → exec (.sWait c) s = .next s)

/-! ## The queue port, the bus port and the environment -/

/-- O40 (R170, R172, R174): the three operations on the queue port, and what they return. -/
def Obligations.QueuePort : Prop :=
  ∀ s : State,
    (∀ f, s.hasRoom → exec (.push f) s = .next { s with
      queue := s.queue ++ [f], reply := some (.port, .done) }) ∧
    (∀ f q, s.queue = f :: q → exec .tryPop s = .next { s with
      queue := q, reply := some (.port, .popped (some f)) }) ∧
    (s.queue = [] → exec .tryPop s = .next { s with reply := some (.port, .popped none) }) ∧
    (s.queue = [] → s.inflight = none →
      exec .drainWait s = .next { s with reply := some (.port, .done) }) ∧
    (s.queue ≠ [] ∨ s.inflight ≠ none → exec .drainWait s = .next s)

/-- O41 (R120, R121, R122; logs 4, 7, 14): the three bus primitives log their transaction with the environment's answer
and return that answer; nothing else of the block changes. -/
def Obligations.BusPort : Prop :=
  ∀ s : State,
    exec (.readRegister 0x00#8) s = .next { s with
      busLog := s.busLog ++ [.read s.params.deviceAddr 0x00#8 s.nextAnswer]
      answers := s.answers.tail, draws := s.draws + 1
      reply := some (.port, .readAnswer s.nextAnswer) } ∧
    (∀ reg v, reg = 0x01#8 ∨ reg = 0x02#8 ∨ reg = 0x03#8 →
      exec (.writeRegister reg v) s = .next { s with
        busLog := s.busLog ++ [.write s.params.deviceAddr reg v (Answer.isOk s.nextAnswer)]
        answers := s.answers.tail, draws := s.draws + 1
        reply := some (.port, .writeAnswer (Answer.isOk s.nextAnswer)) }) ∧
    (∀ bytes, 1 ≤ bytes.length → bytes.length ≤ s.maxChunk →
      exec (.writeBlock 0x01#8 bytes) s = .next { s with
        busLog := s.busLog ++ [.block s.params.deviceAddr 0x01#8 bytes (Answer.isOk s.nextAnswer)]
        answers := s.answers.tail, draws := s.draws + 1
        reply := some (.port, .writeAnswer (Answer.isOk s.nextAnswer)) })

/-- O42 (R123, R297): a bus request with a register its operation does not name, or a block of no bytes or
of more than MAX_CHUNK, is refused as BadBusRequest and has no other effect. -/
def Obligations.BadBusRequestRefused : Prop :=
  ∀ s : State, s.refused = none →
    (∀ reg, reg ≠ 0x00#8 →
      exec (.readRegister reg) s = .next { s with refused := some .badBusRequest }) ∧
    (∀ reg v, reg ≠ 0x01#8 → reg ≠ 0x02#8 → reg ≠ 0x03#8 →
      exec (.writeRegister reg v) s = .next { s with refused := some .badBusRequest }) ∧
    (∀ reg bytes, reg ≠ 0x01#8 ∨ bytes.length = 0 ∨ s.maxChunk < bytes.length →
      exec (.writeBlock reg bytes) s = .next { s with refused := some .badBusRequest })

/-- O43 (R243, R72): PUBLISH replaces the whole slot of the oldest registration and no other slot; it is
enabled only when there is one. -/
def Obligations.PublishReplacesSlot : Prop :=
  ∀ s : State,
    (∀ b k h rest, s.pendingReg = ⟨b, k, h⟩ :: rest → ∃ t, exec .publish s = .next t ∧
      t.pendingReg = rest ∧ t.handler b k = some h ∧
      (∀ d j, d ≠ b ∨ j ≠ k → t.handler d j = s.handler d j) ∧
      { t with pendingReg := s.pendingReg, handlers := s.handlers } = s) ∧
    (s.pendingReg = [] → exec .publish s = .next s)

/-! ## The whole machine -/

/-- O44 (R320, R321): what reset leaves. -/
def Obligations.ResetValues : Prop :=
  State.reset.lifecycle = .uninitialized ∧ State.reset.running = false ∧ State.reset.queue = [] ∧
  (∀ b k, State.reset.handler b k = none) ∧ State.reset.pendingReg = [] ∧
  State.reset.faults = ⟨false, false, false⟩ ∧ State.reset.phase = Phase.unspawned ∧
  State.reset.curSnapshot = none ∧ State.reset.inflight = none ∧ State.reset.events = [] ∧
  State.reset.call = none ∧ (∀ c, State.reset.cphase c = CPhase.idle) ∧ State.reset.busLog = [] ∧
  State.reset.errLog = [] ∧ State.reset.dispatchLog = [] ∧ State.reset.refused = none

/-- O45 (R247): no unregistration. A slot that holds a handler may be given another, but no step empties
it. -/
def Obligations.SlotsAreNeverEmptied : Prop :=
  ∀ (s t : State) (b : ButtonId) (k : Kind), step s = .next t →
    s.handler b k ≠ none → t.handler b k ≠ none

/-- O46: the frame of the shared state: lifecycle, running flag, queue, handler table, registrations, fault
bits and refusal mark change only by the operations whose rules write them; parameters and script never;
an agent's `cphase` only by its own STOP steps. -/
def Obligations.FrameSharedState : Prop :=
  ∀ (i : Instr) (s t : State), exec i s = .next t →
    t.params = s.params ∧ t.script = s.script ∧ t.choices = s.choices ∧
    (writesLifecycle i = false → t.lifecycle = s.lifecycle) ∧
    (writesRunning i = false → t.running = s.running) ∧
    (writesQueue i = false → t.queue = s.queue) ∧
    (writesHandlers i = false → t.handlers = s.handlers) ∧
    (writesPendingReg i = false → t.pendingReg = s.pendingReg) ∧
    (writesIllegalStart i = false → t.faults.illegalStart = s.faults.illegalStart) ∧
    (writesOverflow i = false → t.faults.queueOverflow = s.faults.queueOverflow) ∧
    (writesBadPhase i = false → t.faults.badPhase = s.faults.badPhase) ∧
    (writesRefused i = false → t.refused = s.refused) ∧
    (∀ c, cphaseOwner i ≠ some c → t.cphase c = s.cphase c)

/-- O47 (R306): the frame of the worker's own state. -/
def Obligations.FrameWorkerState : Prop :=
  ∀ (i : Instr) (s t : State), exec i s = .next t →
    (writesPhase i = false → t.phase = s.phase) ∧
    (writesLastSnapshot i = false → t.lastSnapshot = s.lastSnapshot) ∧
    (writesCurSnapshot i = false → t.curSnapshot = s.curSnapshot) ∧
    (writesInflight i = false → t.inflight = s.inflight) ∧
    (writesEvents i = false → t.events = s.events) ∧
    (writesCall i = false → t.call = s.call)

/-- O48 (R34): the logs are append-only, and only the operations whose rules say so append to them. -/
def Obligations.FrameLogs : Prop :=
  ∀ (i : Instr) (s t : State), exec i s = .next t →
    (∃ more, t.busLog = s.busLog ++ more) ∧ (∃ more, t.errLog = s.errLog ++ more) ∧
    (∃ more, t.dispatchLog = s.dispatchLog ++ more) ∧
    (writesBusLog i = false → t.busLog = s.busLog ∧ t.answers = s.answers ∧ t.draws = s.draws) ∧
    (writesErrLog i = false → t.errLog = s.errLog) ∧
    (writesDispatchLog i = false → t.dispatchLog = s.dispatchLog)

/-- O49 (R296, R40): fault bits and the refusal mark are sticky: no step clears them. That a second
refusal leaves the first name in place is the model's choice (log 9). -/
def Obligations.FaultsAndRefusalSticky : Prop :=
  ∀ s t : State, step s = .next t →
    (s.faults.illegalStart = true → t.faults.illegalStart = true) ∧
    (s.faults.queueOverflow = true → t.faults.queueOverflow = true) ∧
    (s.faults.badPhase = true → t.faults.badPhase = true) ∧
    (s.refused ≠ none → t.refused = s.refused)

/-- O50 (R274): the lifecycle only moves forward, one value at a time from every coherent state, and only
by START, by the entry step of STOP or HOST_EXIT, and by S_JOIN. -/
def Obligations.LifecycleForward : Prop :=
  ∀ (i : Instr) (s t : State), exec i s = .next t →
    (Lifecycle.code s.lifecycle).toNat ≤ (Lifecycle.code t.lifecycle).toNat ∧
    (s.Coherent → (Lifecycle.code t.lifecycle).toNat ≤ (Lifecycle.code s.lifecycle).toNat + 1) ∧
    (t.lifecycle ≠ s.lifecycle →
      (∃ c, i = .start c ∧ s.lifecycle = .uninitialized ∧ t.lifecycle = .running) ∨
      (((∃ c, i = .stop c) ∨ i = .hostExit) ∧ s.lifecycle = .running ∧ t.lifecycle = .stopping) ∨
      (∃ c, i = .sJoin c ∧ t.lifecycle = .stopped))

/-- O51: the invariant holds at reset. -/
def Obligations.CoherentAtReset : Prop :=
  State.reset.Coherent ∧ State.reset.SnapshotChain ∧ phasesWf 0 State.reset.cphases = true

/-- O52 (R200 "No rule of this file produces such a state"): every step keeps the invariant of the machine,
so `fault.bad_phase` is never set from a coherent state. -/
def Obligations.StepKeepsCoherent : Prop :=
  ∀ s t : State, s.Coherent → step s = .next t → t.Coherent

/-- O53 (log 20): every step keeps the canonical form of the callers' phases. -/
def Obligations.StepKeepsCanonicalPhases : Prop :=
  ∀ s t : State, phasesWf 0 s.cphases = true → step s = .next t → phasesWf 0 t.cphases = true

/-- O54 (R28, R204): every step of an agent keeps the comparator's chain: after START, `last_snapshot` is
the byte of the last successful read before this cycle's, or 0xFF; so the events of a cycle are EDGE of
two consecutive successful reads. -/
def Obligations.StepKeepsSnapshotChain : Prop :=
  ∀ (s t : State) (a : AgentStep), s.Coherent → s.SnapshotChain → s.takes (.agent a) = .next t →
    t.SnapshotChain ∧
    (a = .workerStep none → s.phase = Phase.cmp →
      ∃ rs v, inputReads s.busLog = rs ++ [v] ∧ t.events = edge (rs.getLastD 0xFF#8) v)

/-- O55 (R81, R74): from a coherent state, a step of an agent extends the bus log only if it is a step of
the live worker, or a START of a block whose worker is not spawned yet; after EXITED nobody does, and
the worker stays EXITED. -/
def Obligations.BusOwnership : Prop :=
  ∀ (s t : State) (a : AgentStep), s.Coherent → s.takes (.agent a) = .next t →
    (t.busLog ≠ s.busLog →
      ((∃ ret, a = .workerStep ret) ∧ s.alive = true) ∨
      (∃ c ops, a = .command c 0x01#8 ops ∧ s.phase = Phase.unspawned)) ∧
    (s.phase = Phase.exited → t.busLog = s.busLog ∧ t.phase = Phase.exited)

/-- O56 (R175): the FIFO law of every run: what has been popped, followed by what is queued, is what was
queued followed by what has been pushed. -/
def Obligations.FifoLaw : Prop :=
  ∀ (n : Nat) (s t : State), Host.Core.run Sys2Proof.core n s = .next t →
    poppedIn n s ++ t.queue = s.queue ++ pushedIn n s

/-- O57 (R71): no interleaving on the wire. In every run of the agents from a coherent state with no frame
in flight, the block writes are those of the popped frames, frame after frame in the order popped: of
each frame its first chunks, answered `ok`, and then, for a frame whose write failed, that one failed
chunk. A frame with no failed write is whole, unless it is the last and still in flight. So `W` is one
piece for each frame, whole or made of whole chunks from its start, and each failure has one record in
the error log. -/
def Obligations.NoInterleavingOnWire : Prop :=
  ∀ (n : Nat) (s t : State), s.Coherent → s.agentsOnly → s.inflight = none →
    Host.Core.run Sys2Proof.core n s = .next t →
    ∃ ends : List (Nat × Bool),
      ends.length = (poppedIn n s).length ∧
      blockWrites t.busLog = blockWrites s.busLog ++ ((poppedIn n s).zip ends).flatMap
        (fun x => frameWrites s.params.deviceAddr s.maxChunk x.1 x.2.1 x.2.2) ∧
      wire t.busLog = wire s.busLog ++ ((poppedIn n s).zip ends).flatMap
        (fun x => x.1.take (x.2.1 * s.maxChunk)) ∧
      (∀ (j : Nat) (f : Frame) (k : Nat) (failed : Bool),
        (poppedIn n s)[j]? = some f → ends[j]? = some (k, failed) →
        (failed = true → k < nchunks s.maxChunk f) ∧
        (failed = false →
          (k = nchunks s.maxChunk f ∧ f.take (k * s.maxChunk) = f) ∨
          (j + 1 = (poppedIn n s).length ∧ t.inflight = some (f, k)))) ∧
      writeFailures t.errLog = writeFailures s.errLog + (ends.filter (fun e => e.2)).length

/-- O58 (R275 (a), (b) and (d), R268, R269): what STOP guarantees. In every run of the agents that takes a
coherent Running block to Stopped without an overflow, every frame that was queued has been popped, in
order, and after them the all-off frame; the worker has exited and no frame is in flight. -/
def Obligations.StopPopsEverythingThenOff : Prop :=
  ∀ (n : Nat) (s t : State), s.Coherent → s.agentsOnly → s.lifecycle = .running →
    Host.Core.run Sys2Proof.core n s = .next t → t.lifecycle = .stopped →
    t.faults.queueOverflow = false →
    t.phase = Phase.exited ∧ t.inflight = none ∧
    ∃ before after,
      poppedIn n s = s.queue ++ before ++ [encodeFrame s.params 0#8 0#8 0#8] ++ after

/-- O35 (R331, R269; log 24): frames that are never sent. The step that completes a STOP's S_DRAIN2 leaves
the queue empty and no frame in flight; from then on every step of an agent leaves each frame that is
pushed in the queue, and no block write happens. In every coherent state that is so in lifecycle Stopped
and once the worker has exited. That POP passes over such a frame is the model's reading. -/
def Obligations.FramesNeverSent : Prop :=
  (∀ (s : State) (c : Agent), s.present c = true → s.cphase c = CPhase.sDrain2 → s.queue = [] →
    s.inflight = none → ∃ t, exec (.sDrain2 c) s = .next t ∧ t.queue = [] ∧ t.lastFrameSent) ∧
  (∀ (s t : State) (a : AgentStep), s.lastFrameSent → s.takes (.agent a) = .next t →
    t.lastFrameSent ∧ (∃ pushed, t.queue = s.queue ++ pushed) ∧
      blockWrites t.busLog = blockWrites s.busLog) ∧
  (∀ s : State, s.Coherent → s.lifecycle = .stopped ∨ s.phase = Phase.exited → s.lastFrameSent)

/-- O59 (R332, R330): a handler that waits in S_DRAIN2 for a frame only the worker can pop deadlocks with
the worker: no step of any agent, whatever it is sent, ends the wait. It rests on the model's reading
that a handler inside STOP cannot return (log 12). -/
def Obligations.HandlerStopDeadlocks : Prop :=
  ∀ (s t : State) (a : AgentStep), s.handlerStopDeadlock → s.takes (.agent a) = .next t →
    t.handlerStopDeadlock ∧ t.call = s.call ∧ t.busLog = s.busLog ∧ ∃ more, t.queue = s.queue ++ more

/-- O60 (R192, R71, R125; logs 3, 4): a frame in flight whose remaining chunk writes are all answered `ok` is
written whole, chunk after chunk, by as many worker steps as it has chunks left; then no frame is in
flight and the worker goes on to READ. The script (log 3) lists those steps, and the answers are
those of log 4. -/
def Obligations.WorkerWritesWholeFrame : Prop :=
  ∀ (s : State) (f : Frame) (k : Nat) (rest : List Stimulus), s.phase = Phase.write →
    s.inflight = some (f, k) → k < nchunks s.maxChunk f →
    (∀ j, j < nchunks s.maxChunk f - k → Answer.isOk (s.answerAt j) = true) →
    s.script = List.replicate (nchunks s.maxChunk f - k) (.agent (.workerStep none)) ++ rest →
    ∃ t, Host.Core.run Sys2Proof.core (nchunks s.maxChunk f - k) s = .next t ∧
      t.phase = Phase.read ∧ t.inflight = none ∧
      wire t.busLog = wire s.busLog ++ f.drop (k * s.maxChunk) ∧
      t.queue = s.queue ∧ t.errLog = s.errLog ∧ t.script = rest

/-- O38 (R242, R243, R335; logs 6 and 22): what weak fairness gives. In every fair run each registration is published at
some step, which puts its handler into its slot; and from a coherent state a live worker that does not
wait for a handler takes its next step. -/
def Obligations.FairRunsProgress : Prop :=
  ∀ (σ : Nat → State) (x : Nat → Stimulus), FairRun σ x →
    (∀ (n : Nat) (b : ButtonId) (k : Kind) (h : HandlerRef), ⟨b, k, h⟩ ∈ (σ n).pendingReg →
      ∃ m, n ≤ m ∧ Stimulus.isStep AgentStep.isPublish (x m) = true ∧
        (∃ rest, (σ m).pendingReg = ⟨b, k, h⟩ :: rest) ∧ (σ (m + 1)).handler b k = some h) ∧
    (∀ n : Nat, (σ n).Coherent → (σ n).alive = true → (σ n).phase ≠ Phase.hwait →
      ∃ m, n ≤ m ∧ Stimulus.isStep AgentStep.isWorker (x m) = true ∧ (σ m).phase = (σ n).phase ∧
        (σ m).enables (.workerStep none))
end

