-- ==== Sys2Proof/Laws/State.lean ====
section
/-! SUPPORT. What each named update leaves in each field of the state, one lemma a field; the provers'
simp set over the state. -/

namespace Sys2Proof.Machine

variable (s : State)

/-! `goto`. -/

@[simp] theorem goto_lifecycle (p : Phase) : (s.goto p).lifecycle = s.lifecycle := rfl
@[simp] theorem goto_running (p : Phase) : (s.goto p).running = s.running := rfl
@[simp] theorem goto_queue (p : Phase) : (s.goto p).queue = s.queue := rfl
@[simp] theorem goto_handlers (p : Phase) : (s.goto p).handlers = s.handlers := rfl
@[simp] theorem goto_pendingReg (p : Phase) : (s.goto p).pendingReg = s.pendingReg := rfl
@[simp] theorem goto_faults (p : Phase) : (s.goto p).faults = s.faults := rfl
@[simp] theorem goto_phase (p : Phase) : (s.goto p).phase = p := rfl
@[simp] theorem goto_lastSnapshot (p : Phase) : (s.goto p).lastSnapshot = s.lastSnapshot := rfl
@[simp] theorem goto_curSnapshot (p : Phase) : (s.goto p).curSnapshot = s.curSnapshot := rfl
@[simp] theorem goto_inflight (p : Phase) : (s.goto p).inflight = s.inflight := rfl
@[simp] theorem goto_events (p : Phase) : (s.goto p).events = s.events := rfl
@[simp] theorem goto_call (p : Phase) : (s.goto p).call = s.call := rfl
@[simp] theorem goto_cphases (p : Phase) : (s.goto p).cphases = s.cphases := rfl
@[simp] theorem goto_busLog (p : Phase) : (s.goto p).busLog = s.busLog := rfl
@[simp] theorem goto_errLog (p : Phase) : (s.goto p).errLog = s.errLog := rfl
@[simp] theorem goto_dispatchLog (p : Phase) : (s.goto p).dispatchLog = s.dispatchLog := rfl
@[simp] theorem goto_refused (p : Phase) : (s.goto p).refused = s.refused := rfl
@[simp] theorem goto_params (p : Phase) : (s.goto p).params = s.params := rfl
@[simp] theorem goto_reply (p : Phase) : (s.goto p).reply = s.reply := rfl
@[simp] theorem goto_script (p : Phase) : (s.goto p).script = s.script := rfl
@[simp] theorem goto_choices (p : Phase) : (s.goto p).choices = s.choices := rfl
@[simp] theorem goto_answers (p : Phase) : (s.goto p).answers = s.answers := rfl
@[simp] theorem goto_draws (p : Phase) : (s.goto p).draws = s.draws := rfl

/-! `setCphase`. -/

@[simp] theorem setCphase_lifecycle (c : Agent) (v : CPhase) :
    (s.setCphase c v).lifecycle = s.lifecycle := rfl
@[simp] theorem setCphase_running (c : Agent) (v : CPhase) :
    (s.setCphase c v).running = s.running := rfl
@[simp] theorem setCphase_queue (c : Agent) (v : CPhase) : (s.setCphase c v).queue = s.queue := rfl
@[simp] theorem setCphase_handlers (c : Agent) (v : CPhase) :
    (s.setCphase c v).handlers = s.handlers := rfl
@[simp] theorem setCphase_pendingReg (c : Agent) (v : CPhase) :
    (s.setCphase c v).pendingReg = s.pendingReg := rfl
@[simp] theorem setCphase_faults (c : Agent) (v : CPhase) :
    (s.setCphase c v).faults = s.faults := rfl
@[simp] theorem setCphase_phase (c : Agent) (v : CPhase) : (s.setCphase c v).phase = s.phase := rfl
@[simp] theorem setCphase_lastSnapshot (c : Agent) (v : CPhase) :
    (s.setCphase c v).lastSnapshot = s.lastSnapshot := rfl
@[simp] theorem setCphase_curSnapshot (c : Agent) (v : CPhase) :
    (s.setCphase c v).curSnapshot = s.curSnapshot := rfl
@[simp] theorem setCphase_inflight (c : Agent) (v : CPhase) :
    (s.setCphase c v).inflight = s.inflight := rfl
@[simp] theorem setCphase_events (c : Agent) (v : CPhase) :
    (s.setCphase c v).events = s.events := rfl
@[simp] theorem setCphase_call (c : Agent) (v : CPhase) : (s.setCphase c v).call = s.call := rfl
@[simp] theorem setCphase_cphases (c : Agent) (v : CPhase) :
    (s.setCphase c v).cphases = setPhaseOf s.cphases (Agent.key c) v := rfl
@[simp] theorem setCphase_busLog (c : Agent) (v : CPhase) :
    (s.setCphase c v).busLog = s.busLog := rfl
@[simp] theorem setCphase_errLog (c : Agent) (v : CPhase) :
    (s.setCphase c v).errLog = s.errLog := rfl
@[simp] theorem setCphase_dispatchLog (c : Agent) (v : CPhase) :
    (s.setCphase c v).dispatchLog = s.dispatchLog := rfl
@[simp] theorem setCphase_refused (c : Agent) (v : CPhase) :
    (s.setCphase c v).refused = s.refused := rfl
@[simp] theorem setCphase_params (c : Agent) (v : CPhase) :
    (s.setCphase c v).params = s.params := rfl
@[simp] theorem setCphase_reply (c : Agent) (v : CPhase) : (s.setCphase c v).reply = s.reply := rfl
@[simp] theorem setCphase_script (c : Agent) (v : CPhase) :
    (s.setCphase c v).script = s.script := rfl
@[simp] theorem setCphase_choices (c : Agent) (v : CPhase) :
    (s.setCphase c v).choices = s.choices := rfl
@[simp] theorem setCphase_answers (c : Agent) (v : CPhase) :
    (s.setCphase c v).answers = s.answers := rfl
@[simp] theorem setCphase_draws (c : Agent) (v : CPhase) : (s.setCphase c v).draws = s.draws := rfl

/-! `setHandler`. -/

@[simp] theorem setHandler_lifecycle (b : ButtonId) (k : Kind) (h : HandlerRef) :
    (s.setHandler b k h).lifecycle = s.lifecycle := rfl
@[simp] theorem setHandler_running (b : ButtonId) (k : Kind) (h : HandlerRef) :
    (s.setHandler b k h).running = s.running := rfl
@[simp] theorem setHandler_queue (b : ButtonId) (k : Kind) (h : HandlerRef) :
    (s.setHandler b k h).queue = s.queue := rfl
@[simp] theorem setHandler_handlers (b : ButtonId) (k : Kind) (h : HandlerRef) :
    (s.setHandler b k h).handlers = s.handlers.set b ((s.handlers[b]).put k h) := rfl
@[simp] theorem setHandler_pendingReg (b : ButtonId) (k : Kind) (h : HandlerRef) :
    (s.setHandler b k h).pendingReg = s.pendingReg := rfl
@[simp] theorem setHandler_faults (b : ButtonId) (k : Kind) (h : HandlerRef) :
    (s.setHandler b k h).faults = s.faults := rfl
@[simp] theorem setHandler_phase (b : ButtonId) (k : Kind) (h : HandlerRef) :
    (s.setHandler b k h).phase = s.phase := rfl
@[simp] theorem setHandler_lastSnapshot (b : ButtonId) (k : Kind) (h : HandlerRef) :
    (s.setHandler b k h).lastSnapshot = s.lastSnapshot := rfl
@[simp] theorem setHandler_curSnapshot (b : ButtonId) (k : Kind) (h : HandlerRef) :
    (s.setHandler b k h).curSnapshot = s.curSnapshot := rfl
@[simp] theorem setHandler_inflight (b : ButtonId) (k : Kind) (h : HandlerRef) :
    (s.setHandler b k h).inflight = s.inflight := rfl
@[simp] theorem setHandler_events (b : ButtonId) (k : Kind) (h : HandlerRef) :
    (s.setHandler b k h).events = s.events := rfl
@[simp] theorem setHandler_call (b : ButtonId) (k : Kind) (h : HandlerRef) :
    (s.setHandler b k h).call = s.call := rfl
@[simp] theorem setHandler_cphases (b : ButtonId) (k : Kind) (h : HandlerRef) :
    (s.setHandler b k h).cphases = s.cphases := rfl
@[simp] theorem setHandler_busLog (b : ButtonId) (k : Kind) (h : HandlerRef) :
    (s.setHandler b k h).busLog = s.busLog := rfl
@[simp] theorem setHandler_errLog (b : ButtonId) (k : Kind) (h : HandlerRef) :
    (s.setHandler b k h).errLog = s.errLog := rfl
@[simp] theorem setHandler_dispatchLog (b : ButtonId) (k : Kind) (h : HandlerRef) :
    (s.setHandler b k h).dispatchLog = s.dispatchLog := rfl
@[simp] theorem setHandler_refused (b : ButtonId) (k : Kind) (h : HandlerRef) :
    (s.setHandler b k h).refused = s.refused := rfl
@[simp] theorem setHandler_params (b : ButtonId) (k : Kind) (h : HandlerRef) :
    (s.setHandler b k h).params = s.params := rfl
@[simp] theorem setHandler_reply (b : ButtonId) (k : Kind) (h : HandlerRef) :
    (s.setHandler b k h).reply = s.reply := rfl
@[simp] theorem setHandler_script (b : ButtonId) (k : Kind) (h : HandlerRef) :
    (s.setHandler b k h).script = s.script := rfl
@[simp] theorem setHandler_choices (b : ButtonId) (k : Kind) (h : HandlerRef) :
    (s.setHandler b k h).choices = s.choices := rfl
@[simp] theorem setHandler_answers (b : ButtonId) (k : Kind) (h : HandlerRef) :
    (s.setHandler b k h).answers = s.answers := rfl
@[simp] theorem setHandler_draws (b : ButtonId) (k : Kind) (h : HandlerRef) :
    (s.setHandler b k h).draws = s.draws := rfl

/-! `answerTo`. -/

@[simp] theorem answerTo_lifecycle (who : Requester) (r : Reply) :
    (s.answerTo who r).lifecycle = s.lifecycle := rfl
@[simp] theorem answerTo_running (who : Requester) (r : Reply) :
    (s.answerTo who r).running = s.running := rfl
@[simp] theorem answerTo_queue (who : Requester) (r : Reply) :
    (s.answerTo who r).queue = s.queue := rfl
@[simp] theorem answerTo_handlers (who : Requester) (r : Reply) :
    (s.answerTo who r).handlers = s.handlers := rfl
@[simp] theorem answerTo_pendingReg (who : Requester) (r : Reply) :
    (s.answerTo who r).pendingReg = s.pendingReg := rfl
@[simp] theorem answerTo_faults (who : Requester) (r : Reply) :
    (s.answerTo who r).faults = s.faults := rfl
@[simp] theorem answerTo_phase (who : Requester) (r : Reply) :
    (s.answerTo who r).phase = s.phase := rfl
@[simp] theorem answerTo_lastSnapshot (who : Requester) (r : Reply) :
    (s.answerTo who r).lastSnapshot = s.lastSnapshot := rfl
@[simp] theorem answerTo_curSnapshot (who : Requester) (r : Reply) :
    (s.answerTo who r).curSnapshot = s.curSnapshot := rfl
@[simp] theorem answerTo_inflight (who : Requester) (r : Reply) :
    (s.answerTo who r).inflight = s.inflight := rfl
@[simp] theorem answerTo_events (who : Requester) (r : Reply) :
    (s.answerTo who r).events = s.events := rfl
@[simp] theorem answerTo_call (who : Requester) (r : Reply) :
    (s.answerTo who r).call = s.call := rfl
@[simp] theorem answerTo_cphases (who : Requester) (r : Reply) :
    (s.answerTo who r).cphases = s.cphases := rfl
@[simp] theorem answerTo_busLog (who : Requester) (r : Reply) :
    (s.answerTo who r).busLog = s.busLog := rfl
@[simp] theorem answerTo_errLog (who : Requester) (r : Reply) :
    (s.answerTo who r).errLog = s.errLog := rfl
@[simp] theorem answerTo_dispatchLog (who : Requester) (r : Reply) :
    (s.answerTo who r).dispatchLog = s.dispatchLog := rfl
@[simp] theorem answerTo_refused (who : Requester) (r : Reply) :
    (s.answerTo who r).refused = s.refused := rfl
@[simp] theorem answerTo_params (who : Requester) (r : Reply) :
    (s.answerTo who r).params = s.params := rfl
@[simp] theorem answerTo_reply (who : Requester) (r : Reply) :
    (s.answerTo who r).reply = some (who, r) := rfl
@[simp] theorem answerTo_script (who : Requester) (r : Reply) :
    (s.answerTo who r).script = s.script := rfl
@[simp] theorem answerTo_choices (who : Requester) (r : Reply) :
    (s.answerTo who r).choices = s.choices := rfl
@[simp] theorem answerTo_answers (who : Requester) (r : Reply) :
    (s.answerTo who r).answers = s.answers := rfl
@[simp] theorem answerTo_draws (who : Requester) (r : Reply) :
    (s.answerTo who r).draws = s.draws := rfl

/-! `raiseError`. -/

@[simp] theorem raiseError_lifecycle (e : ErrRecord) :
    (s.raiseError e).lifecycle = s.lifecycle := rfl
@[simp] theorem raiseError_running (e : ErrRecord) : (s.raiseError e).running = s.running := rfl
@[simp] theorem raiseError_queue (e : ErrRecord) : (s.raiseError e).queue = s.queue := rfl
@[simp] theorem raiseError_handlers (e : ErrRecord) : (s.raiseError e).handlers = s.handlers := rfl
@[simp] theorem raiseError_pendingReg (e : ErrRecord) :
    (s.raiseError e).pendingReg = s.pendingReg := rfl
@[simp] theorem raiseError_faults (e : ErrRecord) : (s.raiseError e).faults = s.faults := rfl
@[simp] theorem raiseError_phase (e : ErrRecord) : (s.raiseError e).phase = s.phase := rfl
@[simp] theorem raiseError_lastSnapshot (e : ErrRecord) :
    (s.raiseError e).lastSnapshot = s.lastSnapshot := rfl
@[simp] theorem raiseError_curSnapshot (e : ErrRecord) :
    (s.raiseError e).curSnapshot = s.curSnapshot := rfl
@[simp] theorem raiseError_inflight (e : ErrRecord) : (s.raiseError e).inflight = s.inflight := rfl
@[simp] theorem raiseError_events (e : ErrRecord) : (s.raiseError e).events = s.events := rfl
@[simp] theorem raiseError_call (e : ErrRecord) : (s.raiseError e).call = s.call := rfl
@[simp] theorem raiseError_cphases (e : ErrRecord) : (s.raiseError e).cphases = s.cphases := rfl
@[simp] theorem raiseError_busLog (e : ErrRecord) : (s.raiseError e).busLog = s.busLog := rfl
@[simp] theorem raiseError_errLog (e : ErrRecord) : (s.raiseError e).errLog = s.errLog ++ [e] := rfl
@[simp] theorem raiseError_dispatchLog (e : ErrRecord) :
    (s.raiseError e).dispatchLog = s.dispatchLog := rfl
@[simp] theorem raiseError_refused (e : ErrRecord) : (s.raiseError e).refused = s.refused := rfl
@[simp] theorem raiseError_params (e : ErrRecord) : (s.raiseError e).params = s.params := rfl
@[simp] theorem raiseError_reply (e : ErrRecord) : (s.raiseError e).reply = s.reply := rfl
@[simp] theorem raiseError_script (e : ErrRecord) : (s.raiseError e).script = s.script := rfl
@[simp] theorem raiseError_choices (e : ErrRecord) : (s.raiseError e).choices = s.choices := rfl
@[simp] theorem raiseError_answers (e : ErrRecord) : (s.raiseError e).answers = s.answers := rfl
@[simp] theorem raiseError_draws (e : ErrRecord) : (s.raiseError e).draws = s.draws := rfl

/-! `badPhase`. -/

@[simp] theorem badPhase_lifecycle : (s.badPhase).lifecycle = s.lifecycle := rfl
@[simp] theorem badPhase_running : (s.badPhase).running = s.running := rfl
@[simp] theorem badPhase_queue : (s.badPhase).queue = s.queue := rfl
@[simp] theorem badPhase_handlers : (s.badPhase).handlers = s.handlers := rfl
@[simp] theorem badPhase_pendingReg : (s.badPhase).pendingReg = s.pendingReg := rfl
@[simp] theorem badPhase_faults : (s.badPhase).faults = { s.faults with badPhase := true } := rfl
@[simp] theorem badPhase_phase : (s.badPhase).phase = s.phase := rfl
@[simp] theorem badPhase_lastSnapshot : (s.badPhase).lastSnapshot = s.lastSnapshot := rfl
@[simp] theorem badPhase_curSnapshot : (s.badPhase).curSnapshot = s.curSnapshot := rfl
@[simp] theorem badPhase_inflight : (s.badPhase).inflight = s.inflight := rfl
@[simp] theorem badPhase_events : (s.badPhase).events = s.events := rfl
@[simp] theorem badPhase_call : (s.badPhase).call = s.call := rfl
@[simp] theorem badPhase_cphases : (s.badPhase).cphases = s.cphases := rfl
@[simp] theorem badPhase_busLog : (s.badPhase).busLog = s.busLog := rfl
@[simp] theorem badPhase_errLog : (s.badPhase).errLog = s.errLog := rfl
@[simp] theorem badPhase_dispatchLog : (s.badPhase).dispatchLog = s.dispatchLog := rfl
@[simp] theorem badPhase_refused : (s.badPhase).refused = s.refused := rfl
@[simp] theorem badPhase_params : (s.badPhase).params = s.params := rfl
@[simp] theorem badPhase_reply : (s.badPhase).reply = s.reply := rfl
@[simp] theorem badPhase_script : (s.badPhase).script = s.script := rfl
@[simp] theorem badPhase_choices : (s.badPhase).choices = s.choices := rfl
@[simp] theorem badPhase_answers : (s.badPhase).answers = s.answers := rfl
@[simp] theorem badPhase_draws : (s.badPhase).draws = s.draws := rfl

/-! `illegalStart`. -/

@[simp] theorem illegalStart_lifecycle : (s.illegalStart).lifecycle = s.lifecycle := rfl
@[simp] theorem illegalStart_running : (s.illegalStart).running = s.running := rfl
@[simp] theorem illegalStart_queue : (s.illegalStart).queue = s.queue := rfl
@[simp] theorem illegalStart_handlers : (s.illegalStart).handlers = s.handlers := rfl
@[simp] theorem illegalStart_pendingReg : (s.illegalStart).pendingReg = s.pendingReg := rfl
@[simp] theorem illegalStart_faults :
    (s.illegalStart).faults = { s.faults with illegalStart := true } := rfl
@[simp] theorem illegalStart_phase : (s.illegalStart).phase = s.phase := rfl
@[simp] theorem illegalStart_lastSnapshot : (s.illegalStart).lastSnapshot = s.lastSnapshot := rfl
@[simp] theorem illegalStart_curSnapshot : (s.illegalStart).curSnapshot = s.curSnapshot := rfl
@[simp] theorem illegalStart_inflight : (s.illegalStart).inflight = s.inflight := rfl
@[simp] theorem illegalStart_events : (s.illegalStart).events = s.events := rfl
@[simp] theorem illegalStart_call : (s.illegalStart).call = s.call := rfl
@[simp] theorem illegalStart_cphases : (s.illegalStart).cphases = s.cphases := rfl
@[simp] theorem illegalStart_busLog : (s.illegalStart).busLog = s.busLog := rfl
@[simp] theorem illegalStart_errLog : (s.illegalStart).errLog = s.errLog := rfl
@[simp] theorem illegalStart_dispatchLog : (s.illegalStart).dispatchLog = s.dispatchLog := rfl
@[simp] theorem illegalStart_refused : (s.illegalStart).refused = s.refused := rfl
@[simp] theorem illegalStart_params : (s.illegalStart).params = s.params := rfl
@[simp] theorem illegalStart_reply : (s.illegalStart).reply = s.reply := rfl
@[simp] theorem illegalStart_script : (s.illegalStart).script = s.script := rfl
@[simp] theorem illegalStart_choices : (s.illegalStart).choices = s.choices := rfl
@[simp] theorem illegalStart_answers : (s.illegalStart).answers = s.answers := rfl
@[simp] theorem illegalStart_draws : (s.illegalStart).draws = s.draws := rfl

/-! `refuse`. -/

@[simp] theorem refuse_lifecycle (n : RefusalName) : (s.refuse n).lifecycle = s.lifecycle := rfl
@[simp] theorem refuse_running (n : RefusalName) : (s.refuse n).running = s.running := rfl
@[simp] theorem refuse_queue (n : RefusalName) : (s.refuse n).queue = s.queue := rfl
@[simp] theorem refuse_handlers (n : RefusalName) : (s.refuse n).handlers = s.handlers := rfl
@[simp] theorem refuse_pendingReg (n : RefusalName) : (s.refuse n).pendingReg = s.pendingReg := rfl
@[simp] theorem refuse_faults (n : RefusalName) : (s.refuse n).faults = s.faults := rfl
@[simp] theorem refuse_phase (n : RefusalName) : (s.refuse n).phase = s.phase := rfl
@[simp] theorem refuse_lastSnapshot (n : RefusalName) :
    (s.refuse n).lastSnapshot = s.lastSnapshot := rfl
@[simp] theorem refuse_curSnapshot (n : RefusalName) :
    (s.refuse n).curSnapshot = s.curSnapshot := rfl
@[simp] theorem refuse_inflight (n : RefusalName) : (s.refuse n).inflight = s.inflight := rfl
@[simp] theorem refuse_events (n : RefusalName) : (s.refuse n).events = s.events := rfl
@[simp] theorem refuse_call (n : RefusalName) : (s.refuse n).call = s.call := rfl
@[simp] theorem refuse_cphases (n : RefusalName) : (s.refuse n).cphases = s.cphases := rfl
@[simp] theorem refuse_busLog (n : RefusalName) : (s.refuse n).busLog = s.busLog := rfl
@[simp] theorem refuse_errLog (n : RefusalName) : (s.refuse n).errLog = s.errLog := rfl
@[simp] theorem refuse_dispatchLog (n : RefusalName) :
    (s.refuse n).dispatchLog = s.dispatchLog := rfl
@[simp] theorem refuse_refused (n : RefusalName) :
    (s.refuse n).refused = some (s.refused.getD n) := rfl
@[simp] theorem refuse_params (n : RefusalName) : (s.refuse n).params = s.params := rfl
@[simp] theorem refuse_reply (n : RefusalName) : (s.refuse n).reply = s.reply := rfl
@[simp] theorem refuse_script (n : RefusalName) : (s.refuse n).script = s.script := rfl
@[simp] theorem refuse_choices (n : RefusalName) : (s.refuse n).choices = s.choices := rfl
@[simp] theorem refuse_answers (n : RefusalName) : (s.refuse n).answers = s.answers := rfl
@[simp] theorem refuse_draws (n : RefusalName) : (s.refuse n).draws = s.draws := rfl

/-! `transact`. -/

@[simp] theorem transact_lifecycle (rec : BusRecord) :
    (s.transact rec).lifecycle = s.lifecycle := rfl
@[simp] theorem transact_running (rec : BusRecord) : (s.transact rec).running = s.running := rfl
@[simp] theorem transact_queue (rec : BusRecord) : (s.transact rec).queue = s.queue := rfl
@[simp] theorem transact_handlers (rec : BusRecord) : (s.transact rec).handlers = s.handlers := rfl
@[simp] theorem transact_pendingReg (rec : BusRecord) :
    (s.transact rec).pendingReg = s.pendingReg := rfl
@[simp] theorem transact_faults (rec : BusRecord) : (s.transact rec).faults = s.faults := rfl
@[simp] theorem transact_phase (rec : BusRecord) : (s.transact rec).phase = s.phase := rfl
@[simp] theorem transact_lastSnapshot (rec : BusRecord) :
    (s.transact rec).lastSnapshot = s.lastSnapshot := rfl
@[simp] theorem transact_curSnapshot (rec : BusRecord) :
    (s.transact rec).curSnapshot = s.curSnapshot := rfl
@[simp] theorem transact_inflight (rec : BusRecord) : (s.transact rec).inflight = s.inflight := rfl
@[simp] theorem transact_events (rec : BusRecord) : (s.transact rec).events = s.events := rfl
@[simp] theorem transact_call (rec : BusRecord) : (s.transact rec).call = s.call := rfl
@[simp] theorem transact_cphases (rec : BusRecord) : (s.transact rec).cphases = s.cphases := rfl
@[simp] theorem transact_busLog (rec : BusRecord) :
    (s.transact rec).busLog = s.busLog ++ [rec] := rfl
@[simp] theorem transact_errLog (rec : BusRecord) : (s.transact rec).errLog = s.errLog := rfl
@[simp] theorem transact_dispatchLog (rec : BusRecord) :
    (s.transact rec).dispatchLog = s.dispatchLog := rfl
@[simp] theorem transact_refused (rec : BusRecord) : (s.transact rec).refused = s.refused := rfl
@[simp] theorem transact_params (rec : BusRecord) : (s.transact rec).params = s.params := rfl
@[simp] theorem transact_reply (rec : BusRecord) : (s.transact rec).reply = s.reply := rfl
@[simp] theorem transact_script (rec : BusRecord) : (s.transact rec).script = s.script := rfl
@[simp] theorem transact_choices (rec : BusRecord) : (s.transact rec).choices = s.choices := rfl
@[simp] theorem transact_answers (rec : BusRecord) :
    (s.transact rec).answers = s.answers.tail := rfl
@[simp] theorem transact_draws (rec : BusRecord) : (s.transact rec).draws = s.draws + 1 := rfl

/-! `spawn`. -/

@[simp] theorem spawn_lifecycle : (s.spawn).lifecycle = .running := rfl
@[simp] theorem spawn_running : (s.spawn).running = true := rfl
@[simp] theorem spawn_queue : (s.spawn).queue = s.queue := rfl
@[simp] theorem spawn_handlers : (s.spawn).handlers = s.handlers := rfl
@[simp] theorem spawn_pendingReg : (s.spawn).pendingReg = s.pendingReg := rfl
@[simp] theorem spawn_faults : (s.spawn).faults = s.faults := rfl
@[simp] theorem spawn_phase : (s.spawn).phase = Phase.check := rfl
@[simp] theorem spawn_lastSnapshot : (s.spawn).lastSnapshot = 0xFF := rfl
@[simp] theorem spawn_curSnapshot : (s.spawn).curSnapshot = none := rfl
@[simp] theorem spawn_inflight : (s.spawn).inflight = none := rfl
@[simp] theorem spawn_events : (s.spawn).events = [] := rfl
@[simp] theorem spawn_call : (s.spawn).call = none := rfl
@[simp] theorem spawn_cphases : (s.spawn).cphases = s.cphases := rfl
@[simp] theorem spawn_busLog : (s.spawn).busLog = s.busLog := rfl
@[simp] theorem spawn_errLog : (s.spawn).errLog = s.errLog := rfl
@[simp] theorem spawn_dispatchLog : (s.spawn).dispatchLog = s.dispatchLog := rfl
@[simp] theorem spawn_refused : (s.spawn).refused = s.refused := rfl
@[simp] theorem spawn_params : (s.spawn).params = s.params := rfl
@[simp] theorem spawn_reply : (s.spawn).reply = s.reply := rfl
@[simp] theorem spawn_script : (s.spawn).script = s.script := rfl
@[simp] theorem spawn_choices : (s.spawn).choices = s.choices := rfl
@[simp] theorem spawn_answers : (s.spawn).answers = s.answers := rfl
@[simp] theorem spawn_draws : (s.spawn).draws = s.draws := rfl

/-! `push`. -/

@[simp] theorem push_lifecycle (f : Frame) : (s.push f).lifecycle = s.lifecycle := rfl
@[simp] theorem push_running (f : Frame) : (s.push f).running = s.running := rfl
@[simp] theorem push_queue (f : Frame) :
    (s.push f).queue = if s.full then s.queue else s.queue ++ [f] := rfl
@[simp] theorem push_handlers (f : Frame) : (s.push f).handlers = s.handlers := rfl
@[simp] theorem push_pendingReg (f : Frame) : (s.push f).pendingReg = s.pendingReg := rfl
@[simp] theorem push_faults (f : Frame) :
    (s.push f).faults = { s.faults with queueOverflow := s.full || s.faults.queueOverflow } := rfl
@[simp] theorem push_phase (f : Frame) : (s.push f).phase = s.phase := rfl
@[simp] theorem push_lastSnapshot (f : Frame) : (s.push f).lastSnapshot = s.lastSnapshot := rfl
@[simp] theorem push_curSnapshot (f : Frame) : (s.push f).curSnapshot = s.curSnapshot := rfl
@[simp] theorem push_inflight (f : Frame) : (s.push f).inflight = s.inflight := rfl
@[simp] theorem push_events (f : Frame) : (s.push f).events = s.events := rfl
@[simp] theorem push_call (f : Frame) : (s.push f).call = s.call := rfl
@[simp] theorem push_cphases (f : Frame) : (s.push f).cphases = s.cphases := rfl
@[simp] theorem push_busLog (f : Frame) : (s.push f).busLog = s.busLog := rfl
@[simp] theorem push_errLog (f : Frame) : (s.push f).errLog = s.errLog := rfl
@[simp] theorem push_dispatchLog (f : Frame) : (s.push f).dispatchLog = s.dispatchLog := rfl
@[simp] theorem push_refused (f : Frame) : (s.push f).refused = s.refused := rfl
@[simp] theorem push_params (f : Frame) : (s.push f).params = s.params := rfl
@[simp] theorem push_reply (f : Frame) : (s.push f).reply = s.reply := rfl
@[simp] theorem push_script (f : Frame) : (s.push f).script = s.script := rfl
@[simp] theorem push_choices (f : Frame) : (s.push f).choices = s.choices := rfl
@[simp] theorem push_answers (f : Frame) : (s.push f).answers = s.answers := rfl
@[simp] theorem push_draws (f : Frame) : (s.push f).draws = s.draws := rfl

/-! `popQueue`. -/

@[simp] theorem popQueue_lifecycle : (s.popQueue).lifecycle = s.lifecycle := rfl
@[simp] theorem popQueue_running : (s.popQueue).running = s.running := rfl
@[simp] theorem popQueue_queue : (s.popQueue).queue = s.queue.tail := rfl
@[simp] theorem popQueue_handlers : (s.popQueue).handlers = s.handlers := rfl
@[simp] theorem popQueue_pendingReg : (s.popQueue).pendingReg = s.pendingReg := rfl
@[simp] theorem popQueue_faults : (s.popQueue).faults = s.faults := rfl
@[simp] theorem popQueue_phase : (s.popQueue).phase = s.phase := rfl
@[simp] theorem popQueue_lastSnapshot : (s.popQueue).lastSnapshot = s.lastSnapshot := rfl
@[simp] theorem popQueue_curSnapshot : (s.popQueue).curSnapshot = s.curSnapshot := rfl
@[simp] theorem popQueue_inflight : (s.popQueue).inflight = s.inflight := rfl
@[simp] theorem popQueue_events : (s.popQueue).events = s.events := rfl
@[simp] theorem popQueue_call : (s.popQueue).call = s.call := rfl
@[simp] theorem popQueue_cphases : (s.popQueue).cphases = s.cphases := rfl
@[simp] theorem popQueue_busLog : (s.popQueue).busLog = s.busLog := rfl
@[simp] theorem popQueue_errLog : (s.popQueue).errLog = s.errLog := rfl
@[simp] theorem popQueue_dispatchLog : (s.popQueue).dispatchLog = s.dispatchLog := rfl
@[simp] theorem popQueue_refused : (s.popQueue).refused = s.refused := rfl
@[simp] theorem popQueue_params : (s.popQueue).params = s.params := rfl
@[simp] theorem popQueue_reply : (s.popQueue).reply = s.reply := rfl
@[simp] theorem popQueue_script : (s.popQueue).script = s.script := rfl
@[simp] theorem popQueue_choices : (s.popQueue).choices = s.choices := rfl
@[simp] theorem popQueue_answers : (s.popQueue).answers = s.answers := rfl
@[simp] theorem popQueue_draws : (s.popQueue).draws = s.draws := rfl

/-! `advance`. -/

@[simp] theorem advance_lifecycle : (s.advance).lifecycle = s.lifecycle := rfl
@[simp] theorem advance_running : (s.advance).running = s.running := rfl
@[simp] theorem advance_queue : (s.advance).queue = s.queue := rfl
@[simp] theorem advance_handlers : (s.advance).handlers = s.handlers := rfl
@[simp] theorem advance_pendingReg : (s.advance).pendingReg = s.pendingReg := rfl
@[simp] theorem advance_faults : (s.advance).faults = s.faults := rfl
@[simp] theorem advance_phase : (s.advance).phase = s.phase := rfl
@[simp] theorem advance_lastSnapshot : (s.advance).lastSnapshot = s.lastSnapshot := rfl
@[simp] theorem advance_curSnapshot : (s.advance).curSnapshot = s.curSnapshot := rfl
@[simp] theorem advance_inflight : (s.advance).inflight = s.inflight := rfl
@[simp] theorem advance_events : (s.advance).events = s.events := rfl
@[simp] theorem advance_call : (s.advance).call = s.call := rfl
@[simp] theorem advance_cphases : (s.advance).cphases = s.cphases := rfl
@[simp] theorem advance_busLog : (s.advance).busLog = s.busLog := rfl
@[simp] theorem advance_errLog : (s.advance).errLog = s.errLog := rfl
@[simp] theorem advance_dispatchLog : (s.advance).dispatchLog = s.dispatchLog := rfl
@[simp] theorem advance_refused : (s.advance).refused = s.refused := rfl
@[simp] theorem advance_params : (s.advance).params = s.params := rfl
@[simp] theorem advance_reply : (s.advance).reply = s.reply := rfl
@[simp] theorem advance_script : (s.advance).script = s.script.tail := rfl
@[simp] theorem advance_choices : (s.advance).choices = s.choices + 1 := rfl
@[simp] theorem advance_answers : (s.advance).answers = s.answers := rfl
@[simp] theorem advance_draws : (s.advance).draws = s.draws := rfl

/-! `memRead`. -/

@[simp] theorem memRead_lifecycle (reg : Byte) : (memRead reg s).lifecycle = s.lifecycle := rfl
@[simp] theorem memRead_running (reg : Byte) : (memRead reg s).running = s.running := rfl
@[simp] theorem memRead_queue (reg : Byte) : (memRead reg s).queue = s.queue := rfl
@[simp] theorem memRead_handlers (reg : Byte) : (memRead reg s).handlers = s.handlers := rfl
@[simp] theorem memRead_pendingReg (reg : Byte) : (memRead reg s).pendingReg = s.pendingReg := rfl
@[simp] theorem memRead_faults (reg : Byte) : (memRead reg s).faults = s.faults := rfl
@[simp] theorem memRead_phase (reg : Byte) : (memRead reg s).phase = s.phase := rfl
@[simp] theorem memRead_lastSnapshot (reg : Byte) :
    (memRead reg s).lastSnapshot = s.lastSnapshot := rfl
@[simp] theorem memRead_curSnapshot (reg : Byte) :
    (memRead reg s).curSnapshot = s.curSnapshot := rfl
@[simp] theorem memRead_inflight (reg : Byte) : (memRead reg s).inflight = s.inflight := rfl
@[simp] theorem memRead_events (reg : Byte) : (memRead reg s).events = s.events := rfl
@[simp] theorem memRead_call (reg : Byte) : (memRead reg s).call = s.call := rfl
@[simp] theorem memRead_cphases (reg : Byte) : (memRead reg s).cphases = s.cphases := rfl
@[simp] theorem memRead_busLog (reg : Byte) :
    (memRead reg s).busLog = s.busLog ++ [.read s.params.deviceAddr reg s.nextAnswer] := rfl
@[simp] theorem memRead_errLog (reg : Byte) : (memRead reg s).errLog = s.errLog := rfl
@[simp] theorem memRead_dispatchLog (reg : Byte) :
    (memRead reg s).dispatchLog = s.dispatchLog := rfl
@[simp] theorem memRead_refused (reg : Byte) : (memRead reg s).refused = s.refused := rfl
@[simp] theorem memRead_params (reg : Byte) : (memRead reg s).params = s.params := rfl
@[simp] theorem memRead_reply (reg : Byte) : (memRead reg s).reply = s.reply := rfl
@[simp] theorem memRead_script (reg : Byte) : (memRead reg s).script = s.script := rfl
@[simp] theorem memRead_choices (reg : Byte) : (memRead reg s).choices = s.choices := rfl
@[simp] theorem memRead_answers (reg : Byte) : (memRead reg s).answers = s.answers.tail := rfl
@[simp] theorem memRead_draws (reg : Byte) : (memRead reg s).draws = s.draws + 1 := rfl

/-! `memWrite`. -/

@[simp] theorem memWrite_lifecycle (reg v : Byte) :
    (memWrite reg v s).lifecycle = s.lifecycle := rfl
@[simp] theorem memWrite_running (reg v : Byte) : (memWrite reg v s).running = s.running := rfl
@[simp] theorem memWrite_queue (reg v : Byte) : (memWrite reg v s).queue = s.queue := rfl
@[simp] theorem memWrite_handlers (reg v : Byte) : (memWrite reg v s).handlers = s.handlers := rfl
@[simp] theorem memWrite_pendingReg (reg v : Byte) :
    (memWrite reg v s).pendingReg = s.pendingReg := rfl
@[simp] theorem memWrite_faults (reg v : Byte) : (memWrite reg v s).faults = s.faults := rfl
@[simp] theorem memWrite_phase (reg v : Byte) : (memWrite reg v s).phase = s.phase := rfl
@[simp] theorem memWrite_lastSnapshot (reg v : Byte) :
    (memWrite reg v s).lastSnapshot = s.lastSnapshot := rfl
@[simp] theorem memWrite_curSnapshot (reg v : Byte) :
    (memWrite reg v s).curSnapshot = s.curSnapshot := rfl
@[simp] theorem memWrite_inflight (reg v : Byte) : (memWrite reg v s).inflight = s.inflight := rfl
@[simp] theorem memWrite_events (reg v : Byte) : (memWrite reg v s).events = s.events := rfl
@[simp] theorem memWrite_call (reg v : Byte) : (memWrite reg v s).call = s.call := rfl
@[simp] theorem memWrite_cphases (reg v : Byte) : (memWrite reg v s).cphases = s.cphases := rfl
@[simp] theorem memWrite_busLog (reg v : Byte) :
    (memWrite reg v s).busLog = s.busLog ++ [.write s.params.deviceAddr reg v (Answer.isOk s.nextAnswer)] := rfl
@[simp] theorem memWrite_errLog (reg v : Byte) : (memWrite reg v s).errLog = s.errLog := rfl
@[simp] theorem memWrite_dispatchLog (reg v : Byte) :
    (memWrite reg v s).dispatchLog = s.dispatchLog := rfl
@[simp] theorem memWrite_refused (reg v : Byte) : (memWrite reg v s).refused = s.refused := rfl
@[simp] theorem memWrite_params (reg v : Byte) : (memWrite reg v s).params = s.params := rfl
@[simp] theorem memWrite_reply (reg v : Byte) : (memWrite reg v s).reply = s.reply := rfl
@[simp] theorem memWrite_script (reg v : Byte) : (memWrite reg v s).script = s.script := rfl
@[simp] theorem memWrite_choices (reg v : Byte) : (memWrite reg v s).choices = s.choices := rfl
@[simp] theorem memWrite_answers (reg v : Byte) : (memWrite reg v s).answers = s.answers.tail := rfl
@[simp] theorem memWrite_draws (reg v : Byte) : (memWrite reg v s).draws = s.draws + 1 := rfl

/-! `memWriteBlock`. -/

@[simp] theorem memWriteBlock_lifecycle (reg : Byte) (bytes : List Byte) :
    (memWriteBlock reg bytes s).lifecycle = s.lifecycle := rfl
@[simp] theorem memWriteBlock_running (reg : Byte) (bytes : List Byte) :
    (memWriteBlock reg bytes s).running = s.running := rfl
@[simp] theorem memWriteBlock_queue (reg : Byte) (bytes : List Byte) :
    (memWriteBlock reg bytes s).queue = s.queue := rfl
@[simp] theorem memWriteBlock_handlers (reg : Byte) (bytes : List Byte) :
    (memWriteBlock reg bytes s).handlers = s.handlers := rfl
@[simp] theorem memWriteBlock_pendingReg (reg : Byte) (bytes : List Byte) :
    (memWriteBlock reg bytes s).pendingReg = s.pendingReg := rfl
@[simp] theorem memWriteBlock_faults (reg : Byte) (bytes : List Byte) :
    (memWriteBlock reg bytes s).faults = s.faults := rfl
@[simp] theorem memWriteBlock_phase (reg : Byte) (bytes : List Byte) :
    (memWriteBlock reg bytes s).phase = s.phase := rfl
@[simp] theorem memWriteBlock_lastSnapshot (reg : Byte) (bytes : List Byte) :
    (memWriteBlock reg bytes s).lastSnapshot = s.lastSnapshot := rfl
@[simp] theorem memWriteBlock_curSnapshot (reg : Byte) (bytes : List Byte) :
    (memWriteBlock reg bytes s).curSnapshot = s.curSnapshot := rfl
@[simp] theorem memWriteBlock_inflight (reg : Byte) (bytes : List Byte) :
    (memWriteBlock reg bytes s).inflight = s.inflight := rfl
@[simp] theorem memWriteBlock_events (reg : Byte) (bytes : List Byte) :
    (memWriteBlock reg bytes s).events = s.events := rfl
@[simp] theorem memWriteBlock_call (reg : Byte) (bytes : List Byte) :
    (memWriteBlock reg bytes s).call = s.call := rfl
@[simp] theorem memWriteBlock_cphases (reg : Byte) (bytes : List Byte) :
    (memWriteBlock reg bytes s).cphases = s.cphases := rfl
@[simp] theorem memWriteBlock_busLog (reg : Byte) (bytes : List Byte) :
    (memWriteBlock reg bytes s).busLog = s.busLog ++ [.block s.params.deviceAddr reg bytes (Answer.isOk s.nextAnswer)] := rfl
@[simp] theorem memWriteBlock_errLog (reg : Byte) (bytes : List Byte) :
    (memWriteBlock reg bytes s).errLog = s.errLog := rfl
@[simp] theorem memWriteBlock_dispatchLog (reg : Byte) (bytes : List Byte) :
    (memWriteBlock reg bytes s).dispatchLog = s.dispatchLog := rfl
@[simp] theorem memWriteBlock_refused (reg : Byte) (bytes : List Byte) :
    (memWriteBlock reg bytes s).refused = s.refused := rfl
@[simp] theorem memWriteBlock_params (reg : Byte) (bytes : List Byte) :
    (memWriteBlock reg bytes s).params = s.params := rfl
@[simp] theorem memWriteBlock_reply (reg : Byte) (bytes : List Byte) :
    (memWriteBlock reg bytes s).reply = s.reply := rfl
@[simp] theorem memWriteBlock_script (reg : Byte) (bytes : List Byte) :
    (memWriteBlock reg bytes s).script = s.script := rfl
@[simp] theorem memWriteBlock_choices (reg : Byte) (bytes : List Byte) :
    (memWriteBlock reg bytes s).choices = s.choices := rfl
@[simp] theorem memWriteBlock_answers (reg : Byte) (bytes : List Byte) :
    (memWriteBlock reg bytes s).answers = s.answers.tail := rfl
@[simp] theorem memWriteBlock_draws (reg : Byte) (bytes : List Byte) :
    (memWriteBlock reg bytes s).draws = s.draws + 1 := rfl

end Sys2Proof.Machine
end

