-- ==== Sys2Proof/Laws/Ops.lean ====
section
/-! SUPPORT. One lemma for what each shared operation can do. -/

namespace Sys2Proof.Machine

/-! ## The callers' phases -/

theorem phaseOf_dropKey_self (m : List (Nat × CPhase)) (k : Nat) : phaseOf (dropKey m k) k = 0#3 := by
  induction m with
  | nil => rfl
  | cons e rest ih =>
    obtain ⟨a, v⟩ := e
    by_cases h : a = k <;> simp [dropKey, phaseOf, h, ih]

theorem phaseOf_dropKey_ne (m : List (Nat × CPhase)) (k j : Nat) (h : j ≠ k) :
    phaseOf (dropKey m k) j = phaseOf m j := by
  induction m with
  | nil => rfl
  | cons e rest ih =>
    obtain ⟨a, v⟩ := e
    by_cases hk : a = k
    · subst hk
      simp [dropKey, phaseOf, ih, Ne.symm h]
    · by_cases hj : a = j
      · subst hj
        simp [dropKey, phaseOf, hk]
      · simp [dropKey, phaseOf, hk, hj, ih]

theorem phaseOf_insertKey (m : List (Nat × CPhase)) (k j : Nat) (v : CPhase) (hm : phaseOf m k = 0#3)
    (hk : ∀ w, (k, w) ∉ m) : phaseOf (insertKey m k v) j = if j = k then v else phaseOf m j := by
  induction m with
  | nil =>
    by_cases h : j = k
    · simp [insertKey, phaseOf, h]
    · simp [insertKey, phaseOf, h, Ne.symm h]
  | cons e rest ih =>
    obtain ⟨a, w⟩ := e
    have ha : a ≠ k := fun h => hk w (by simp [h])
    have hrest : ∀ u, (k, u) ∉ rest := fun u hu => hk u (by simp [hu])
    have hm' : phaseOf rest k = 0#3 := by simpa [phaseOf, ha] using hm
    have ih := ih hm' hrest
    by_cases hlt : k < a
    · by_cases h : j = k
      · simp [insertKey, phaseOf, hlt, h]
      · simp [insertKey, phaseOf, hlt, h, Ne.symm h]
    · by_cases h : a = j
      · subst h
        simp [insertKey, phaseOf, hlt, ha]
      · simp [insertKey, phaseOf, hlt, h, ih]

theorem notMem_dropKey (m : List (Nat × CPhase)) (k : Nat) (w : CPhase) : (k, w) ∉ dropKey m k := by
  induction m with
  | nil => simp [dropKey]
  | cons e rest ih =>
    obtain ⟨a, v⟩ := e
    by_cases h : a = k
    · simp [dropKey, h, ih]
    · simp [dropKey, h, ih, Ne.symm h]

/-- Everything a write of one `cphase` does to every other one. -/
theorem phaseOf_setPhaseOf (m : List (Nat × CPhase)) (k j : Nat) (v : CPhase) :
    phaseOf (setPhaseOf m k v) j = if j = k then v else phaseOf m j := by
  unfold setPhaseOf
  by_cases hv : v = 0#3
  · by_cases h : j = k
    · simp [hv, h, phaseOf_dropKey_self]
    · simp [hv, h, phaseOf_dropKey_ne]
  · rw [if_neg hv, phaseOf_insertKey _ _ _ _ (phaseOf_dropKey_self m k) (notMem_dropKey m k)]
    by_cases h : j = k
    · simp [h]
    · simp [h, phaseOf_dropKey_ne]

theorem key_injective (c d : Agent) (h : Agent.key c = Agent.key d) : c = d := by
  cases c <;> cases d <;> simp_all [Agent.key]

/-- `cphase[d]` after `cphase[c] <- v`. -/
@[simp] theorem cphase_setCphase (s : State) (c d : Agent) (v : CPhase) :
    (s.setCphase c v).cphase d = if d = c then v else s.cphase d := by
  simp only [State.cphase, setCphase_cphases, phaseOf_setPhaseOf]
  by_cases h : d = c
  · simp [h]
  · have : Agent.key d ≠ Agent.key c := fun hk => h (key_injective d c hk)
    simp [h, this]

theorem phasesWf_mono (m : List (Nat × CPhase)) (lo hi : Nat) (h : lo ≤ hi)
    (hm : phasesWf hi m = true) : phasesWf lo m = true := by
  cases m with
  | nil => rfl
  | cons e rest =>
    obtain ⟨a, v⟩ := e
    simp [phasesWf] at hm ⊢
    exact ⟨⟨by omega, hm.1.2⟩, hm.2⟩

theorem phasesWf_dropKey (m : List (Nat × CPhase)) (lo k : Nat) (hm : phasesWf lo m = true) :
    phasesWf lo (dropKey m k) = true := by
  induction m generalizing lo with
  | nil => rfl
  | cons e rest ih =>
    obtain ⟨a, v⟩ := e
    simp [phasesWf] at hm
    by_cases h : a = k
    · simp only [dropKey, h, if_true]
      exact phasesWf_mono _ _ (a + 1) (by omega) (h ▸ ih (a + 1) hm.2)
    · simp [dropKey, h, phasesWf, hm.1, ih _ hm.2]

theorem phasesWf_insertKey (m : List (Nat × CPhase)) (lo k : Nat) (v : CPhase) (hv : v ≠ 0#3)
    (hlo : lo ≤ k) (hk : ∀ w, (k, w) ∉ m) (hm : phasesWf lo m = true) :
    phasesWf lo (insertKey m k v) = true := by
  induction m generalizing lo with
  | nil => simp [insertKey, phasesWf, hv, hlo]
  | cons e rest ih =>
    obtain ⟨a, w⟩ := e
    simp [phasesWf] at hm
    have ha : a ≠ k := fun h => hk w (by simp [h])
    by_cases hlt : k < a
    · have hka : k + 1 ≤ a := hlt
      simp [insertKey, hlt, phasesWf, hv, hlo, hm, hka]
    · have := ih (a + 1) (by omega) (fun u hu => hk u (by simp [hu])) hm.2
      simp [insertKey, hlt, phasesWf, hm.1, this]

/-- A write of one `cphase` keeps the canonical form. -/
theorem phasesWf_setPhaseOf (m : List (Nat × CPhase)) (k : Nat) (v : CPhase)
    (hm : phasesWf 0 m = true) : phasesWf 0 (setPhaseOf m k v) = true := by
  unfold setPhaseOf
  split
  · exact phasesWf_dropKey m 0 k hm
  · rename_i hv
    exact phasesWf_insertKey _ 0 k v hv (by omega) (notMem_dropKey m k) (phasesWf_dropKey m 0 k hm)

theorem cphase_congr {s t : State} (h : s.cphases = t.cphases) (c : Agent) :
    s.cphase c = t.cphase c := by
  simp [State.cphase, h]

/-! ## The handler table -/

@[simp] theorem get_put (x : Slots) (k j : Kind) (h : HandlerRef) :
    (x.put k h).get j = if j = k then some h else x.get j := by
  cases k <;> cases j <;> rfl

/-- Every slot after one slot has been replaced whole (R72). -/
@[simp] theorem handler_setHandler (s : State) (b d : ButtonId) (k j : Kind) (h : HandlerRef) :
    (s.setHandler b k h).handler d j = if d = b ∧ j = k then some h else s.handler d j := by
  simp only [State.handler, setHandler_handlers]
  by_cases hb : d = b
  · subst hb
    simp
  · have hne : b.val ≠ d.val := fun hv => hb (Fin.ext hv.symm)
    have : (s.handlers.set b ((s.handlers[b]).put k h))[d] = s.handlers[d] := by
      simp [hne]
    rw [this]
    simp [hb]

/-! ## Enabledness -/

theorem command_next {c : Agent} {f : State → State} {s t : State} (h : command c f s = .next t) :
    (s.canIssue c = true ∧ t = f s) ∨ (s.canIssue c = false ∧ t = s) := by
  simp only [command, Host.Outcome.next.injEq] at h
  cases hc : s.canIssue c <;> simp_all

theorem workerStep_next {p : Phase} {f : State → State} {s t : State}
    (h : workerStep p f s = .next t) : (s.phase = p ∧ t = f s) ∨ (s.phase ≠ p ∧ t = s) := by
  simp only [workerStep, Host.Outcome.next.injEq] at h
  by_cases hp : s.phase = p <;> simp_all

theorem stopStep_next {c : Agent} {p : CPhase} {f : State → State} {s t : State}
    (h : stopStep c p f s = .next t) :
    (s.cphase c = p ∧ s.present c = true ∧ t = f s) ∨ t = s := by
  simp only [stopStep, Host.Outcome.next.injEq] at h
  by_cases hp : s.cphase c = p ∧ s.present c = true
  · rw [if_pos hp] at h
    exact .inl ⟨hp.1, hp.2, h.symm⟩
  · rw [if_neg hp] at h
    exact .inr h.symm

theorem canIssue_idle {s : State} {c : Agent} (h : s.canIssue c = true) :
    s.cphase c = CPhase.idle := by
  simp only [State.canIssue, Bool.and_eq_true, beq_iff_eq] at h
  exact h.1

/-- A key whose phase is not IDLE is listed. -/
theorem phaseOf_listed {m : List (Nat × CPhase)} {k : Nat} (h : phaseOf m k ≠ 0#3) :
    ∃ e ∈ m, e.1 = k := by
  induction m with
  | nil => exact absurd rfl h
  | cons e rest ih =>
    by_cases hk : e.1 = k
    · exact ⟨e, by simp, hk⟩
    · simp only [phaseOf, hk, if_false] at h
      obtain ⟨e', he, hk'⟩ := ih h
      exact ⟨e', by simp [he], hk'⟩

/-- Every key is an agent's. -/
theorem key_surjective (k : Nat) : ∃ c, Agent.key c = k :=
  match k with
  | 0 => ⟨.host, rfl⟩
  | 1 => ⟨.hctx, rfl⟩
  | k + 2 => ⟨.caller k, rfl⟩

/-- The condition of R331, in the words of the rules. -/
theorem pastFinalDrain_iff (s : State) : s.pastFinalDrain = true ↔
    s.lifecycle = .stopped ∨ ∃ c, s.cphase c = CPhase.sSignal ∨ s.cphase c = CPhase.sJoin := by
  simp only [State.pastFinalDrain, Bool.or_eq_true, beq_iff_eq, List.any_eq_true]
  refine or_congr_right ⟨fun ⟨e, _, h⟩ => ?_, fun ⟨c, h⟩ => ?_⟩
  · obtain ⟨c, hc⟩ := key_surjective e.1
    exact ⟨c, by simpa [State.cphase, hc] using h⟩
  · obtain ⟨e, he, hk⟩ := phaseOf_listed (m := s.cphases) (k := Agent.key c) (by
      rcases h with h | h <;> simp_all [State.cphase])
    exact ⟨e, he, by simpa [State.cphase, hk] using h⟩

theorem drained_iff (s : State) : s.drained = true ↔ s.queue = [] ∧ s.inflight = none := by
  simp [State.drained, State.empty]

theorem whenDrained_cases (s : State) (f : State → State) :
    (s.drained = true ∧ s.whenDrained f = f s) ∨ (s.drained = false ∧ s.whenDrained f = s) := by
  cases h : s.drained <;> simp [State.whenDrained, h]

/-! ## The bus port and START -/

theorem busRequest_cases (good : Bool) (f : State → State) (s : State) :
    (good = true ∧ busRequest good f s = f s) ∨
      (good = false ∧ busRequest good f s = s.refuse .badBusRequest) := by
  cases good <;> simp [busRequest]

/-- Everything the configuration writes can do to the state: only the bus log and the answers change, and
the log gains records of single-register writes (R260, R264). -/
theorem configure_spec (ws : List (Byte × Byte)) (s : State) :
    ∃ recs n as,
      (configure ws s).2 =
        { s with busLog := s.busLog ++ recs, answers := as, draws := s.draws + n } ∧
      ∀ r ∈ recs, ∃ reg v ok, r = .write s.params.deviceAddr reg v ok := by
  induction ws generalizing s with
  | nil => exact ⟨[], 0, s.answers, by simp [configure], by simp⟩
  | cons w rest ih =>
    obtain ⟨reg, v⟩ := w
    simp only [configure]
    split
    · obtain ⟨recs, n, as, h, hr⟩ := ih (memWrite reg v s)
      refine ⟨.write s.params.deviceAddr reg v (Answer.isOk s.nextAnswer) :: recs, n + 1, as, ?_, ?_⟩
      · rw [h]
        simp [memWrite, State.transact, Nat.add_comm, Nat.add_left_comm]
      · intro r hmem
        rcases List.mem_cons.1 hmem with rfl | hmem
        · exact ⟨reg, v, _, rfl⟩
        · exact hr r hmem
    · exact ⟨[.write s.params.deviceAddr reg v (Answer.isOk s.nextAnswer)], 1, s.answers.tail, rfl,
        fun r hr => ⟨reg, v, _, List.mem_singleton.1 hr⟩⟩

/-- Everything the return of a handler can do (R197). -/
theorem handlerReturns_cases (s : State) (ret : HandlerReturn) :
    s.handlerReturns ret = s ∨
      ∃ inv es, s.call = some inv ∧ s.phase = Phase.hwait ∧ s.cphase .hctx = CPhase.idle ∧
        s.handlerReturns ret =
          { s with errLog := s.errLog ++ es, call := none, phase := Phase.dispatch } := by
  unfold State.handlerReturns
  cases hc : s.call with
  | none => exact .inl rfl
  | some inv =>
    by_cases h : s.phase = Phase.hwait ∧ s.cphase .hctx = CPhase.idle
    · right
      cases ret with
      | ok => exact ⟨inv, [], rfl, h.1, h.2, by simp [h]⟩
      | exc => exact ⟨inv, [handlerException inv.event], rfl, h.1, h.2, by simp [h, State.raiseError]⟩
    · exact .inl (if_neg h)



end Sys2Proof.Machine
end

