-- ==== Sys2Proof/Laws/Effect.lean ====
section
/-! SUPPORT. What one operation can do, said once: every next state of `exec` is one of the explicit updates
of `Effect`. Claims over all operations take this apart instead of unfolding the meanings. -/

namespace Sys2Proof.Machine

/-- The operations whose entry step is that of STOP, with the agent that takes it (R265, R273). -/
def stopsFor (i : Instr) (c : Agent) : Prop := i = .stop c ∨ (i = .hostExit ∧ c = .host)

/-- The effects of the operations, one constructor for each outcome a rule gives. -/
inductive Effect (s : State) : Instr → State → Prop where
  /-- The step is not enabled, or holds. -/
  | hold (i) : Effect s i s
  | startFails (c reg recs n as) (hc : s.canIssue c = true) (hl : s.lifecycle = .uninitialized)
      (hr : ∀ r ∈ recs, ∃ reg v ok, r = BusRecord.write s.params.deviceAddr reg v ok) :
      Effect s (.start c) { s with
        busLog := s.busLog ++ recs, answers := as, draws := s.draws + n
        reply := some (.agent c, .err (configurationFailure reg)) }
  | startSpawns (c recs n as) (hc : s.canIssue c = true) (hl : s.lifecycle = .uninitialized)
      (hr : ∀ r ∈ recs, ∃ reg v ok, r = BusRecord.write s.params.deviceAddr reg v ok) :
      Effect s (.start c) { s with
        busLog := s.busLog ++ recs, answers := as, draws := s.draws + n
        lastSnapshot := 0xFF#8, curSnapshot := none, inflight := none, events := [], call := none
        running := true, phase := Phase.check, lifecycle := .running, reply := some (.agent c, .ok) }
  | startIllegal (c) (hc : s.canIssue c = true) (hl : s.lifecycle ≠ .uninitialized) :
      Effect s (.start c) { s with
        faults := { s.faults with illegalStart := true }, reply := some (.agent c, .done) }
  | stopNothing (i c) (hi : stopsFor i c) (hc : s.canIssue c = true)
      (hl : s.lifecycle = .stopped ∨ s.lifecycle = .uninitialized) :
      Effect s i { s with reply := some (.agent c, .done) }
  | stopWaits (i c) (hi : stopsFor i c) (hc : s.canIssue c = true) (hl : s.lifecycle = .stopping) :
      Effect s i { s with cphases := setPhaseOf s.cphases (Agent.key c) CPhase.sWait }
  | stopBegins (i c) (hi : stopsFor i c) (hc : s.canIssue c = true) (hl : s.lifecycle = .running) :
      Effect s i { s with
        lifecycle := .stopping, cphases := setPhaseOf s.cphases (Agent.key c) CPhase.sDrain1 }
  | colourInvalid (c r g b ch) (hc : s.canIssue c = true) (hk : checkColour r g b = .error ch) :
      Effect s (.setColour c r g b) { s with reply := some (.agent c, .err (invalidColour ch)) }
  | colourPushed (c r g b rb gb bb) (hc : s.canIssue c = true)
      (hk : checkColour r g b = .ok (rb, gb, bb)) :
      Effect s (.setColour c r g b) { s with
        queue := if s.full then s.queue else s.queue ++ [encodeFrame s.params rb gb bb]
        faults := { s.faults with queueOverflow := s.full || s.faults.queueOverflow }
        reply := some (.agent c, .ok) }
  | pressRegistered (c sel h) (hc : s.canIssue c = true) :
      Effect s (.onPress c sel h) { s with
        pendingReg := s.pendingReg ++ registrations (selMask sel) .press h
        reply := some (.agent c, .done) }
  | releaseRegistered (c sel h) (hc : s.canIssue c = true) :
      Effect s (.onRelease c sel h) { s with
        pendingReg := s.pendingReg ++ registrations (selMask sel) .release h
        reply := some (.agent c, .done) }
  | checked (hp : s.phase = Phase.check) :
      Effect s .check { s with phase := if s.running then Phase.pop else Phase.exited }
  | popped (f q) (hp : s.phase = Phase.pop) (hq : s.queue = f :: q) (hd : s.pastFinalDrain = false) :
      Effect s .pop { s with queue := q, inflight := some (f, 0), phase := Phase.write }
  | popNothing (hp : s.phase = Phase.pop) (hq : s.queue = [] ∨ s.pastFinalDrain = true) :
      Effect s .pop { s with phase := Phase.read }
  | writeNoFrame (hp : s.phase = Phase.write) (hi : s.inflight = none) :
      Effect s .write { s with faults := { s.faults with badPhase := true } }
  | writeRefused (f k) (hp : s.phase = Phase.write) (hi : s.inflight = some (f, k))
      (hb : blockOk s regOutput (chunk s.maxChunk f k) = false) :
      Effect s .write { s with refused := some (s.refused.getD .badBusRequest) }
  | writeNextChunk (f k) (hp : s.phase = Phase.write) (hi : s.inflight = some (f, k))
      (hb : blockOk s regOutput (chunk s.maxChunk f k) = true) (ha : Answer.isOk s.nextAnswer = true)
      (hk : k + 1 < nchunks s.maxChunk f) :
      Effect s .write { s with
        busLog := s.busLog ++ [.block s.params.deviceAddr regOutput (chunk s.maxChunk f k) true]
        answers := s.answers.tail, draws := s.draws + 1, inflight := some (f, k + 1) }
  | writeLastChunk (f k) (hp : s.phase = Phase.write) (hi : s.inflight = some (f, k))
      (hb : blockOk s regOutput (chunk s.maxChunk f k) = true) (ha : Answer.isOk s.nextAnswer = true)
      (hk : ¬ k + 1 < nchunks s.maxChunk f) :
      Effect s .write { s with
        busLog := s.busLog ++ [.block s.params.deviceAddr regOutput (chunk s.maxChunk f k) true]
        answers := s.answers.tail, draws := s.draws + 1, inflight := none, phase := Phase.read }
  | writeFails (f k) (hp : s.phase = Phase.write) (hi : s.inflight = some (f, k))
      (hb : blockOk s regOutput (chunk s.maxChunk f k) = true)
      (ha : Answer.isOk s.nextAnswer = false) :
      Effect s .write { s with
        busLog := s.busLog ++ [.block s.params.deviceAddr regOutput (chunk s.maxChunk f k) false]
        answers := s.answers.tail, draws := s.draws + 1
        errLog := s.errLog ++ [busIOFailure .write regOutput k], inflight := none
        phase := Phase.sleep }
  | readSampled (v) (hp : s.phase = Phase.read) (ha : s.nextAnswer = .ok v) :
      Effect s .read { s with
        busLog := s.busLog ++ [.read s.params.deviceAddr regInput (.ok v)]
        answers := s.answers.tail, draws := s.draws + 1, curSnapshot := some v, phase := Phase.cmp }
  | readFails (hp : s.phase = Phase.read) (ha : s.nextAnswer = .fail) :
      Effect s .read { s with
        busLog := s.busLog ++ [.read s.params.deviceAddr regInput .fail]
        answers := s.answers.tail, draws := s.draws + 1
        errLog := s.errLog ++ [busIOFailure .read regInput 0], phase := Phase.sleep }
  | cmpNoSnapshot (hp : s.phase = Phase.cmp) (hs : s.curSnapshot = none) :
      Effect s .cmp { s with faults := { s.faults with badPhase := true } }
  | compared (v) (hp : s.phase = Phase.cmp) (hs : s.curSnapshot = some v) :
      Effect s .cmp { s with
        events := if v ≠ s.lastSnapshot then edge s.lastSnapshot v else [], phase := Phase.dispatch }
  | dispatchDone (hp : s.phase = Phase.dispatch) (he : s.events = []) :
      Effect s .dispatch { s with phase := Phase.update }
  | dispatchDropped (e rest) (hp : s.phase = Phase.dispatch) (he : s.events = e :: rest)
      (hh : s.handler e.button (Event.kind e) = none) :
      Effect s .dispatch { s with events := rest }
  | dispatchInvoked (e rest h) (hp : s.phase = Phase.dispatch) (he : s.events = e :: rest)
      (hh : s.handler e.button (Event.kind e) = some h) :
      Effect s .dispatch { s with
        events := rest, dispatchLog := s.dispatchLog ++ [⟨h, e⟩], call := some ⟨h, e⟩
        phase := Phase.hwait }
  | handlerOk (i inv) (hi : i = .returnOk ∨ i = .hwait (some .ok)) (hp : s.phase = Phase.hwait)
      (hc : s.call = some inv) (hx : s.cphase .hctx = CPhase.idle) :
      Effect s i { s with call := none, phase := Phase.dispatch }
  | handlerExc (i inv) (hi : i = .returnExc ∨ i = .hwait (some .exc)) (hp : s.phase = Phase.hwait)
      (hc : s.call = some inv) (hx : s.cphase .hctx = CPhase.idle) :
      Effect s i { s with
        errLog := s.errLog ++ [handlerException inv.event], call := none, phase := Phase.dispatch }
  | updateNoSnapshot (hp : s.phase = Phase.update) (hs : s.curSnapshot = none) :
      Effect s .update { s with faults := { s.faults with badPhase := true } }
  | updated (v) (hp : s.phase = Phase.update) (hs : s.curSnapshot = some v) :
      Effect s .update { s with lastSnapshot := v, curSnapshot := none, phase := Phase.sleep }
  | slept (hp : s.phase = Phase.sleep) : Effect s .sleep { s with phase := Phase.check }
  | drained1 (c) (hc : s.cphase c = CPhase.sDrain1) (hx : s.present c = true)
      (hd : s.drained = true) :
      Effect s (.sDrain1 c) { s with cphases := setPhaseOf s.cphases (Agent.key c) CPhase.sPushoff }
  | pushedOff (c) (hc : s.cphase c = CPhase.sPushoff) (hx : s.present c = true) :
      Effect s (.sPushoff c) { s with
        queue := if s.full then s.queue else s.queue ++ [offFrame s.params]
        faults := { s.faults with queueOverflow := s.full || s.faults.queueOverflow }
        cphases := setPhaseOf s.cphases (Agent.key c) CPhase.sDrain2 }
  | drained2 (c) (hc : s.cphase c = CPhase.sDrain2) (hx : s.present c = true)
      (hd : s.drained = true) :
      Effect s (.sDrain2 c) { s with cphases := setPhaseOf s.cphases (Agent.key c) CPhase.sSignal }
  | signalled (c) (hc : s.cphase c = CPhase.sSignal) (hx : s.present c = true) :
      Effect s (.sSignal c) { s with
        running := false, cphases := setPhaseOf s.cphases (Agent.key c) CPhase.sJoin }
  | joined (c) (hc : s.cphase c = CPhase.sJoin) (hx : s.present c = true)
      (hp : s.phase = Phase.exited) :
      Effect s (.sJoin c) { s with
        lifecycle := .stopped, cphases := setPhaseOf s.cphases (Agent.key c) CPhase.idle
        reply := some (.agent c, .done) }
  | waited (c) (hc : s.cphase c = CPhase.sWait) (hx : s.present c = true)
      (hl : s.lifecycle = .stopped) :
      Effect s (.sWait c) { s with
        cphases := setPhaseOf s.cphases (Agent.key c) CPhase.idle, reply := some (.agent c, .done) }
  | portPushed (f) :
      Effect s (.push f) { s with
        queue := if s.full then s.queue else s.queue ++ [f]
        faults := { s.faults with queueOverflow := s.full || s.faults.queueOverflow }
        reply := some (.port, .done) }
  | portPopped :
      Effect s .tryPop { s with
        queue := s.queue.tail, reply := some (.port, .popped s.queue.head?) }
  | portDrained (hd : s.drained = true) :
      Effect s .drainWait { s with reply := some (.port, .done) }
  | portRefused (i) (hi : (∃ reg, i = .readRegister reg) ∨ (∃ reg v, i = .writeRegister reg v) ∨
      (∃ reg bytes, i = .writeBlock reg bytes)) :
      Effect s i { s with refused := some (s.refused.getD .badBusRequest) }
  | portRead (reg) (hr : readOk reg = true) :
      Effect s (.readRegister reg) { s with
        busLog := s.busLog ++ [.read s.params.deviceAddr reg s.nextAnswer]
        answers := s.answers.tail, draws := s.draws + 1
        reply := some (.port, .readAnswer s.nextAnswer) }
  | portWrote (reg v) (hr : writeOk reg = true) :
      Effect s (.writeRegister reg v) { s with
        busLog := s.busLog ++ [.write s.params.deviceAddr reg v (Answer.isOk s.nextAnswer)]
        answers := s.answers.tail, draws := s.draws + 1
        reply := some (.port, .writeAnswer (Answer.isOk s.nextAnswer)) }
  | portWroteBlock (reg bytes) (hr : blockOk s reg bytes = true) :
      Effect s (.writeBlock reg bytes) { s with
        busLog := s.busLog ++ [.block s.params.deviceAddr reg bytes (Answer.isOk s.nextAnswer)]
        answers := s.answers.tail, draws := s.draws + 1
        reply := some (.port, .writeAnswer (Answer.isOk s.nextAnswer)) }
  | published (b k h rest) (hp : s.pendingReg = ⟨b, k, h⟩ :: rest) :
      Effect s .publish { s with
        handlers := s.handlers.set b ((s.handlers[b]).put k h), pendingReg := rest }

theorem start_effect {c : Agent} {s t : State} (h : execStart c s = .next t) :
    Effect s (.start c) t := by
  rcases command_next h with ⟨hc, rfl⟩ | ⟨_, rfl⟩
  · unfold startBody
    split
    · rename_i hl
      obtain ⟨recs, n, as, he, hr⟩ := configure_spec (configSeq s.params) s
      generalize configure (configSeq s.params) s = r at he
      obtain ⟨o, s'⟩ := r
      simp only at he
      subst he
      cases o with
      | none => exact .startSpawns c recs n as hc hl hr
      | some reg => exact .startFails c reg recs n as hc hl hr
    · rename_i hl
      exact .startIllegal c hc hl
  · exact .hold _

theorem stop_effect {i : Instr} {c : Agent} {s t : State} (hi : stopsFor i c)
    (h : command c (stopBody c) s = .next t) : Effect s i t := by
  rcases command_next h with ⟨hc, rfl⟩ | ⟨_, rfl⟩
  · unfold stopBody
    split
    · rename_i hl
      exact .stopNothing i c hi hc (.inl hl)
    · rename_i hl
      exact .stopNothing i c hi hc (.inr hl)
    · rename_i hl
      exact .stopWaits i c hi hc hl
    · rename_i hl
      exact .stopBegins i c hi hc hl
  · exact .hold _

theorem colour_effect {c : Agent} {r g b : ChanVal} {s t : State}
    (h : execSetColour c r g b s = .next t) : Effect s (.setColour c r g b) t := by
  rcases command_next h with ⟨hc, rfl⟩ | ⟨_, rfl⟩
  · unfold setColourBody
    split
    · rename_i ch hk
      exact .colourInvalid c r g b ch hc hk
    · rename_i rb gb bb hk
      exact .colourPushed c r g b rb gb bb hc hk
  · exact .hold _

theorem pop_effect {s t : State} (h : execPop s = .next t) : Effect s .pop t := by
  rcases workerStep_next h with ⟨hp, rfl⟩ | ⟨_, rfl⟩
  · unfold popBody State.popped
    cases hd : s.pastFinalDrain with
    | true => exact .popNothing hp (.inr hd)
    | false =>
      cases hq : s.queue with
      | nil =>
        have : s.popQueue.goto Phase.read = { s with phase := Phase.read } := by
          simp [State.popQueue, State.goto, hq]
        simp only [Bool.false_eq_true, if_false, List.head?_nil, this]
        exact .popNothing hp (.inl hq)
      | cons f q =>
        have : { s.popQueue with inflight := some (f, 0), phase := Phase.write } =
            { s with queue := q, inflight := some (f, 0), phase := Phase.write } := by
          simp [State.popQueue, hq]
        simp only [Bool.false_eq_true, if_false, List.head?_cons, this]
        exact .popped f q hp hq hd
  · exact .hold _

theorem write_effect {s t : State} (h : execWrite s = .next t) : Effect s .write t := by
  rcases workerStep_next h with ⟨hp, rfl⟩ | ⟨_, rfl⟩
  · unfold writeBody
    split
    · rename_i hi
      exact .writeNoFrame hp hi
    · rename_i f k hi
      rcases busRequest_cases (blockOk s regOutput (chunk s.maxChunk f k)) (writeChunk f k) s with
        ⟨hb, e⟩ | ⟨hb, e⟩
      · rw [e]
        unfold writeChunk memWriteBlock
        split
        · rename_i ha
          split
          · rename_i hk
            simpa [State.transact, ha] using Effect.writeNextChunk f k hp hi hb ha hk
          · rename_i hk
            simpa [State.transact, ha] using Effect.writeLastChunk f k hp hi hb ha hk
        · rename_i ha
          have ha : Answer.isOk s.nextAnswer = false := by simpa using ha
          simpa [State.transact, State.raiseError, ha] using Effect.writeFails f k hp hi hb ha
      · rw [e]
        exact .writeRefused f k hp hi hb
  · exact .hold _

theorem read_effect {s t : State} (h : execRead s = .next t) : Effect s .read t := by
  rcases workerStep_next h with ⟨hp, rfl⟩ | ⟨_, rfl⟩
  · unfold readBody memRead
    split
    · rename_i v ha
      simpa [State.transact, ha] using Effect.readSampled v hp ha
    · rename_i ha
      simpa [State.transact, State.raiseError, State.goto, ha] using Effect.readFails hp ha
  · exact .hold _

theorem cmp_effect {s t : State} (h : execCmp s = .next t) : Effect s .cmp t := by
  rcases workerStep_next h with ⟨hp, rfl⟩ | ⟨_, rfl⟩
  · unfold cmpBody
    split
    · rename_i hs
      exact .cmpNoSnapshot hp hs
    · rename_i v hs
      exact .compared v hp hs
  · exact .hold _

theorem dispatch_effect {s t : State} (h : execDispatch s = .next t) : Effect s .dispatch t := by
  rcases workerStep_next h with ⟨hp, rfl⟩ | ⟨_, rfl⟩
  · unfold dispatchBody
    split
    · rename_i he
      exact .dispatchDone hp he
    · rename_i e rest he
      split
      · rename_i hh
        exact .dispatchDropped e rest hp he hh
      · rename_i h hh
        exact .dispatchInvoked e rest h hp he hh
  · exact .hold _

theorem handlerReturns_effect (i : Instr) (s : State) (ret : HandlerReturn)
    (hi : (ret = .ok ∧ (i = .returnOk ∨ i = .hwait (some .ok))) ∨
      (ret = .exc ∧ (i = .returnExc ∨ i = .hwait (some .exc)))) :
    Effect s i (s.handlerReturns ret) := by
  unfold State.handlerReturns
  cases hc : s.call with
  | none => exact .hold i
  | some inv =>
    by_cases hp : s.phase = Phase.hwait ∧ s.cphase .hctx = CPhase.idle
    · rcases hi with ⟨rfl, hi⟩ | ⟨rfl, hi⟩
      · simp only [if_pos hp]
        exact .handlerOk i inv hi hp.1 hc hp.2
      · simp only [if_pos hp]
        exact .handlerExc i inv hi hp.1 hc hp.2
    · simp only [if_neg hp]
      exact .hold i

theorem hwait_effect {ret : Option HandlerReturn} {s t : State} (h : execHwait ret s = .next t) :
    Effect s (.hwait ret) t := by
  rcases workerStep_next h with ⟨_, rfl⟩ | ⟨_, rfl⟩
  · match ret with
    | none => exact .hold _
    | some .ok => exact handlerReturns_effect _ s .ok (.inl ⟨rfl, .inr rfl⟩)
    | some .exc => exact handlerReturns_effect _ s .exc (.inr ⟨rfl, .inr rfl⟩)
  · exact .hold _

theorem update_effect {s t : State} (h : execUpdate s = .next t) : Effect s .update t := by
  rcases workerStep_next h with ⟨hp, rfl⟩ | ⟨_, rfl⟩
  · unfold updateBody
    split
    · rename_i hs
      exact .updateNoSnapshot hp hs
    · rename_i v hs
      exact .updated v hp hs
  · exact .hold _

/-- A drain step either completes or holds. -/
theorem drain_effect {i : Instr} {c : Agent} {p v : CPhase} {s t : State}
    (h : stopStep c p (fun s => s.whenDrained (fun s => s.setCphase c v)) s = .next t)
    (he : s.cphase c = p → s.present c = true → s.drained = true →
      Effect s i { s with cphases := setPhaseOf s.cphases (Agent.key c) v }) : Effect s i t := by
  rcases stopStep_next h with ⟨hc, hx, rfl⟩ | rfl
  · rcases whenDrained_cases s (fun s => s.setCphase c v) with ⟨hd, e⟩ | ⟨_, e⟩
    · rw [e]
      exact he hc hx hd
    · rw [e]
      exact .hold _
  · exact .hold _

theorem join_effect {c : Agent} {s t : State} (h : execSJoin c s = .next t) :
    Effect s (.sJoin c) t := by
  rcases stopStep_next h with ⟨hc, hx, rfl⟩ | rfl
  · unfold joinBody
    split
    · rename_i hp
      exact .joined c hc hx hp
    · exact .hold _
  · exact .hold _

theorem wait_effect {c : Agent} {s t : State} (h : execSWait c s = .next t) :
    Effect s (.sWait c) t := by
  rcases stopStep_next h with ⟨hc, hx, rfl⟩ | rfl
  · unfold waitBody
    split
    · rename_i hl
      exact .waited c hc hx hl
    · exact .hold _
  · exact .hold _

/-- A request at the bus port is refused or taken. -/
theorem port_effect {i : Instr} {good : Bool} {f : State → State} {s t : State}
    (h : (Host.Outcome.next (busRequest good f s) : Result) = .next t)
    (hi : (∃ reg, i = .readRegister reg) ∨ (∃ reg v, i = .writeRegister reg v) ∨
      (∃ reg bytes, i = .writeBlock reg bytes))
    (he : good = true → Effect s i (f s)) : Effect s i t := by
  injection h with h
  subst h
  rcases busRequest_cases good f s with ⟨hg, e⟩ | ⟨_, e⟩
  · rw [e]
    exact he hg
  · rw [e]
    exact .portRefused i hi

theorem publish_effect {s t : State} (h : execPublish s = .next t) : Effect s .publish t := by
  injection h with h
  subst h
  unfold publishBody
  split
  · exact .hold _
  · rename_i reg rest hp
    exact .published reg.button reg.kind reg.handler rest hp

theorem check_effect {s t : State} (h : execCheck s = .next t) : Effect s .check t := by
  rcases workerStep_next h with ⟨hp, rfl⟩ | ⟨_, rfl⟩
  · exact .checked hp
  · exact .hold _

theorem sleep_effect {s t : State} (h : execSleep s = .next t) : Effect s .sleep t := by
  rcases workerStep_next h with ⟨hp, rfl⟩ | ⟨_, rfl⟩
  · exact .slept hp
  · exact .hold _

theorem pushoff_effect {c : Agent} {s t : State} (h : execSPushoff c s = .next t) :
    Effect s (.sPushoff c) t := by
  rcases stopStep_next h with ⟨hc, hx, rfl⟩ | rfl
  · exact .pushedOff c hc hx
  · exact .hold _

theorem signal_effect {c : Agent} {s t : State} (h : execSSignal c s = .next t) :
    Effect s (.sSignal c) t := by
  rcases stopStep_next h with ⟨hc, hx, rfl⟩ | rfl
  · exact .signalled c hc hx
  · exact .hold _

theorem press_effect {c : Agent} {sel : ButtonSel} {x : HandlerRef} {s t : State}
    (h : execOnPress c sel x s = .next t) : Effect s (.onPress c sel x) t := by
  rcases command_next h with ⟨hc, rfl⟩ | ⟨_, rfl⟩
  · exact .pressRegistered c sel x hc
  · exact .hold _

theorem release_effect {c : Agent} {sel : ButtonSel} {x : HandlerRef} {s t : State}
    (h : execOnRelease c sel x s = .next t) : Effect s (.onRelease c sel x) t := by
  rcases command_next h with ⟨hc, rfl⟩ | ⟨_, rfl⟩
  · exact .releaseRegistered c sel x hc
  · exact .hold _

/-- Every next state of every operation is one of the effects. -/
theorem exec_effect {i : Instr} {s t : State} (h : exec i s = .next t) : Effect s i t := by
  cases i with
  | start c => exact start_effect h
  | stop c => exact stop_effect (.inl rfl) h
  | setColour c r g b => exact colour_effect h
  | onPress c sel hd => exact press_effect h
  | onRelease c sel hd => exact release_effect h
  | hostExit => exact stop_effect (.inr ⟨rfl, rfl⟩) h
  | check => exact check_effect h
  | pop => exact pop_effect h
  | write => exact write_effect h
  | read => exact read_effect h
  | cmp => exact cmp_effect h
  | dispatch => exact dispatch_effect h
  | hwait ret => exact hwait_effect h
  | update => exact update_effect h
  | sleep => exact sleep_effect h
  | sDrain1 c => exact drain_effect h (.drained1 c)
  | sPushoff c => exact pushoff_effect h
  | sDrain2 c => exact drain_effect h (.drained2 c)
  | sSignal c => exact signal_effect h
  | sJoin c => exact join_effect h
  | sWait c => exact wait_effect h
  | push f =>
    injection h with h
    exact h ▸ .portPushed f
  | tryPop =>
    injection h with h
    exact h ▸ .portPopped
  | drainWait =>
    injection h with h
    subst h
    rcases whenDrained_cases s (fun s => s.answerTo .port .done) with ⟨hd, e⟩ | ⟨_, e⟩
    · rw [e]
      exact .portDrained hd
    · rw [e]
      exact .hold _
  | readRegister reg => exact port_effect h (.inl ⟨reg, rfl⟩) (.portRead reg)
  | writeRegister reg v => exact port_effect h (.inr (.inl ⟨reg, v, rfl⟩)) (.portWrote reg v)
  | writeBlock reg bytes => exact port_effect h (.inr (.inr ⟨reg, bytes, rfl⟩)) (.portWroteBlock reg bytes)
  | publish => exact publish_effect h
  | returnOk =>
    injection h with h
    exact h ▸ handlerReturns_effect _ s .ok (.inl ⟨rfl, .inl rfl⟩)
  | returnExc =>
    injection h with h
    exact h ▸ handlerReturns_effect _ s .exc (.inr ⟨rfl, .inl rfl⟩)

/-- A step runs a decoded operation past the stimulus, or does what an undecodable packet does; in the
second case nothing changes but the refusal mark and the bad-phase bit. -/
theorem step_effect {s t : State} (h : step s = .next t) :
    (∃ i, decode s.fetch = .ok i ∧ Effect s.advance i t) ∨
      (∃ e bits mark, decode s.fetch = .error e ∧
        t = { s.advance with faults := bits, refused := mark } ∧
        (bits = s.faults ∨ bits = { s.faults with badPhase := true }) ∧
        (mark = s.refused ∨ ∃ n, mark = some (s.refused.getD n))) := by
  unfold step at h
  split at h
  · rename_i i hd
    exact .inl ⟨i, hd, exec_effect h⟩
  · rename_i e hd
    right
    cases e <;> simp only [undecoded] at h <;> first | cases h; done | skip
    all_goals
      injection h with h
      subst h
    · exact ⟨_, s.faults, _, hd, rfl, .inl rfl, .inr ⟨.undefinedCommand, rfl⟩⟩
    · exact ⟨_, s.faults, _, hd, rfl, .inl rfl, .inr ⟨.undefinedBusOp, rfl⟩⟩
    · exact ⟨_, s.faults, _, hd, rfl, .inl rfl, .inr ⟨.undefinedEnvOp, rfl⟩⟩
    · exact ⟨_, s.faults, s.refused, hd, rfl, .inl rfl, .inl rfl⟩
    · exact ⟨_, s.faults, s.refused, hd, rfl, .inl rfl, .inl rfl⟩
    · exact ⟨_, _, s.refused, hd, rfl, .inr rfl, .inl rfl⟩
    · exact ⟨_, s.faults, s.refused, hd, rfl, .inl rfl, .inl rfl⟩
    · exact ⟨_, _, s.refused, hd, rfl, .inr rfl, .inl rfl⟩
    · exact ⟨_, s.faults, s.refused, hd, rfl, .inl rfl, .inl rfl⟩

end Sys2Proof.Machine
end

