-- ==== Sys2Proof/Laws/Encoder.lean ====
section
/-! SUPPORT. The shape of the serial expansion, position by position: what the encoder's claims cite
instead of unfolding 128 bytes. -/

namespace Sys2Proof.Machine

theorem lineByte_bit6 (d c : Bool) : (lineByte d c).getLsbD 6 = c := by
  cases d <;> cases c <;> decide

theorem lineByte_bit7 (d c : Bool) : (lineByte d c).getLsbD 7 = d := by
  cases d <;> cases c <;> decide

theorem lineByte_low (d c : Bool) : lineByte d c &&& 0x3F#8 = 0#8 := by
  cases d <;> cases c <;> decide

/-- The serial expansion written out. -/
theorem ser_eq (x : Byte) : ser x =
    [lineByte (x.getLsbD 7) false, lineByte (x.getLsbD 7) true,
     lineByte (x.getLsbD 6) false, lineByte (x.getLsbD 6) true,
     lineByte (x.getLsbD 5) false, lineByte (x.getLsbD 5) true,
     lineByte (x.getLsbD 4) false, lineByte (x.getLsbD 4) true,
     lineByte (x.getLsbD 3) false, lineByte (x.getLsbD 3) true,
     lineByte (x.getLsbD 2) false, lineByte (x.getLsbD 2) true,
     lineByte (x.getLsbD 1) false, lineByte (x.getLsbD 1) true,
     lineByte (x.getLsbD 0) false, lineByte (x.getLsbD 0) true] := by
  have : List.range 8 = [0, 1, 2, 3, 4, 5, 6, 7] := by decide
  simp [ser, this]

theorem ser_length (x : Byte) : (ser x).length = 16 := by
  rw [ser_eq]
  rfl

/-- The byte at one position of the expansion: the bit's level, the clock low on even positions. -/
theorem ser_get (x : Byte) (j : Nat) (h : j < 16) :
    (ser x)[j]? = some (lineByte (x.getLsbD (7 - j / 2)) (decide (j % 2 = 1))) := by
  rw [ser_eq]
  have at_pos : ∀ i : Fin 16, [lineByte (x.getLsbD 7) false, lineByte (x.getLsbD 7) true,
      lineByte (x.getLsbD 6) false, lineByte (x.getLsbD 6) true,
      lineByte (x.getLsbD 5) false, lineByte (x.getLsbD 5) true,
      lineByte (x.getLsbD 4) false, lineByte (x.getLsbD 4) true,
      lineByte (x.getLsbD 3) false, lineByte (x.getLsbD 3) true,
      lineByte (x.getLsbD 2) false, lineByte (x.getLsbD 2) true,
      lineByte (x.getLsbD 1) false, lineByte (x.getLsbD 1) true,
      lineByte (x.getLsbD 0) false, lineByte (x.getLsbD 0) true][i.val]? = some (lineByte (x.getLsbD (7 - i.val / 2)) (decide (i.val % 2 = 1))) := by
    intro i
    fin_cases i <;> rfl
  exact at_pos ⟨j, h⟩

theorem flatMap_ser_length (l : List Byte) : (l.flatMap ser).length = 16 * l.length := by
  induction l with
  | nil => rfl
  | cons x rest ih => simp [ser_length, ih, Nat.mul_add, Nat.add_comm]

/-- The byte at one position of several payload bytes in a row. -/
theorem flatMap_ser_get (l : List Byte) (j : Nat) (h : j < 16 * l.length) :
    (l.flatMap ser)[j]? =
      some (lineByte ((l.getD (j / 16) 0#8).getLsbD (7 - j % 16 / 2)) (decide (j % 2 = 1))) := by
  induction l generalizing j with
  | nil => simp at h
  | cons x rest ih =>
    rw [List.flatMap_cons]
    by_cases hj : j < 16
    · rw [List.getElem?_append_left (by rw [ser_length]; exact hj), ser_get x j hj]
      have h0 : j / 16 = 0 := by omega
      have h1 : j % 16 = j := by omega
      simp [h0, h1]
    · rw [List.getElem?_append_right (by rw [ser_length]; omega), ser_length]
      rw [ih (j - 16) (by simp at h; omega)]
      have h0 : j / 16 = (j - 16) / 16 + 1 := by omega
      have h1 : (j - 16) % 16 = j % 16 := by omega
      have h2 : (j - 16) % 2 = j % 2 := by omega
      rw [h0, h1, h2, List.getD_cons_succ]

theorem encodeFrame_length (p : Params) (rb gb bb : Byte) : (encodeFrame p rb gb bb).length = 128 := by
  rw [encodeFrame, flatMap_ser_length]
  rfl

end Sys2Proof.Machine
end

