-- ==== Sys2Proof/Laws/PerInstr.lean ====
section
/-! SUPPORT. A law of each operation as syntax: no other row of the table has its selector, so within a format
a value spells one operation (spec/30_encoding.md R90, R100). -/

namespace Sys2Proof.Laws.Selector

/-- The row of spec/opcode_table.json an operation belongs to. -/
def mnemonic (i : Instr) : String :=
  match i with
  | .start _ => "START"
  | .stop _ => "STOP"
  | .setColour _ _ _ _ => "SET_COLOUR"
  | .onPress _ _ _ => "ON_PRESS"
  | .onRelease _ _ _ => "ON_RELEASE"
  | .hostExit => "HOST_EXIT"
  | .check => "CHECK"
  | .pop => "POP"
  | .write => "WRITE"
  | .read => "READ"
  | .cmp => "CMP"
  | .dispatch => "DISPATCH"
  | .hwait _ => "HWAIT"
  | .update => "UPDATE"
  | .sleep => "SLEEP"
  | .sDrain1 _ => "STOP.S_DRAIN1"
  | .sPushoff _ => "STOP.S_PUSHOFF"
  | .sDrain2 _ => "STOP.S_DRAIN2"
  | .sSignal _ => "STOP.S_SIGNAL"
  | .sJoin _ => "STOP.S_JOIN"
  | .sWait _ => "STOP.S_WAIT"
  | .push _ => "PUSH"
  | .tryPop => "TRY_POP"
  | .drainWait => "DRAIN_WAIT"
  | .readRegister _ => "READ_REGISTER"
  | .writeRegister _ _ => "WRITE_REGISTER"
  | .writeBlock _ _ => "WRITE_BLOCK"
  | .publish => "PUBLISH"
  | .returnOk => "RETURN_OK"
  | .returnExc => "RETURN_EXC"

/-- Whatever is encoded with the selector of `i` is the operation of the same row. -/
def Statement (i : Instr) : Prop :=
  ∀ j : Instr, (encode j).sel = (encode i).sel → mnemonic j = mnemonic i

/-- The row a selector belongs to (R27, R33, R91, R92). -/
def rowOf (sel : Selector) : String :=
  match sel with
  | .cmd op => ["", "START", "STOP", "SET_COLOUR", "ON_PRESS", "ON_RELEASE", "HOST_EXIT"].getD op.toNat ""
  | .ph p => ["CHECK", "POP", "WRITE", "READ", "CMP", "DISPATCH", "HWAIT", "UPDATE", "SLEEP"].getD p.toNat ""
  | .cph v => ["", "STOP.S_DRAIN1", "STOP.S_PUSHOFF", "STOP.S_DRAIN2", "STOP.S_SIGNAL", "STOP.S_JOIN",
      "STOP.S_WAIT"].getD v.toNat ""
  | .qop q => ["", "PUSH", "TRY_POP", "DRAIN_WAIT"].getD q.toNat ""
  | .bop b => ["READ_REGISTER", "WRITE_REGISTER", "WRITE_BLOCK"].getD b.toNat ""
  | .env e => ["PUBLISH", "RETURN_OK", "RETURN_EXC"].getD e.toNat ""

/-- An operation's own row is the row of the selector it is encoded with. -/
theorem mnemonic_eq_rowOf (i : Instr) : mnemonic i = rowOf (encode i).sel := by
  cases i <;> rfl

theorem statement_holds (i : Instr) : Statement i := by
  intro j h
  rw [mnemonic_eq_rowOf, mnemonic_eq_rowOf, h]

theorem start (c : Agent) : Statement (.start c) := statement_holds _

theorem stop (c : Agent) : Statement (.stop c) := statement_holds _

theorem setColour (c : Agent) (r : ChanVal) (g : ChanVal) (b : ChanVal) : Statement (.setColour c r g b) := statement_holds _

theorem onPress (c : Agent) (sel : ButtonSel) (h : HandlerRef) : Statement (.onPress c sel h) := statement_holds _

theorem onRelease (c : Agent) (sel : ButtonSel) (h : HandlerRef) : Statement (.onRelease c sel h) := statement_holds _

theorem hostExit : Statement .hostExit := statement_holds _

theorem check : Statement .check := statement_holds _

theorem pop : Statement .pop := statement_holds _

theorem write : Statement .write := statement_holds _

theorem read : Statement .read := statement_holds _

theorem cmp : Statement .cmp := statement_holds _

theorem dispatch : Statement .dispatch := statement_holds _

theorem hwait (ret : Option HandlerReturn) : Statement (.hwait ret) := statement_holds _

theorem update : Statement .update := statement_holds _

theorem sleep : Statement .sleep := statement_holds _

theorem sDrain1 (c : Agent) : Statement (.sDrain1 c) := statement_holds _

theorem sPushoff (c : Agent) : Statement (.sPushoff c) := statement_holds _

theorem sDrain2 (c : Agent) : Statement (.sDrain2 c) := statement_holds _

theorem sSignal (c : Agent) : Statement (.sSignal c) := statement_holds _

theorem sJoin (c : Agent) : Statement (.sJoin c) := statement_holds _

theorem sWait (c : Agent) : Statement (.sWait c) := statement_holds _

theorem push (f : Frame) : Statement (.push f) := statement_holds _

theorem tryPop : Statement .tryPop := statement_holds _

theorem drainWait : Statement .drainWait := statement_holds _

theorem readRegister (reg : Byte) : Statement (.readRegister reg) := statement_holds _

theorem writeRegister (reg : Byte) (v : Byte) : Statement (.writeRegister reg v) := statement_holds _

theorem writeBlock (reg : Byte) (bytes : List Byte) : Statement (.writeBlock reg bytes) := statement_holds _

theorem publish : Statement .publish := statement_holds _

theorem returnOk : Statement .returnOk := statement_holds _

theorem returnExc : Statement .returnExc := statement_holds _

end Sys2Proof.Laws.Selector
end

