-- ==== Sys2Proof/Laws/Step.lean ====
section
/-! SUPPORT. What one stimulus can do to a state, and a run taken apart step by step: what claims about runs
cite instead of unfolding `Host.Core.run`. -/

namespace Sys2Proof.Machine

/-- One stimulus runs a decoded operation, or changes nothing but the fault bits and the refusal mark. -/
theorem takes_effect {x : Stimulus} {s t : State} (h : s.takes x = .next t) :
    (∃ i, decode (packetOf x s) = .ok i ∧ Effect s i t) ∨
      ∃ bits mark, t = { s with faults := bits, refused := mark } := by
  unfold State.takes at h
  split at h
  · rename_i i hd
    exact .inl ⟨i, hd, exec_effect h⟩
  · rename_i e _
    right
    cases e <;> simp only [undecoded] at h <;> first | cases h; done | skip
    all_goals
      injection h with h
      exact ⟨_, _, h.symm⟩

/-- A step takes the next stimulus past which it has moved. -/
theorem step_eq_takes (s : State) : step s = s.advance.takes s.nextStimulus := rfl

/-- What one step of a run does. -/
theorem IsRun.effect {σ : Nat → State} {x : Nat → Stimulus} (h : IsRun σ x) (n : Nat) :
    (∃ i, decode (packetOf (x n) (σ n)) = .ok i ∧ Effect (σ n) i (σ (n + 1))) ∨
      ∃ bits mark, σ (n + 1) = { σ n with faults := bits, refused := mark } :=
  takes_effect (h n)

theorem run_zero (s : State) : Host.Core.run Sys2Proof.core 0 s = .next s := rfl

theorem core_run_succ (M : Host.Core) (n : Nat) (s : M.State) :
    M.run (n + 1) s =
      match M.step s with
      | .next u => M.run n u
      | .fault r => .fault r
      | .refused r => .refused r := rfl

theorem core_run_next (M : Host.Core) (n : Nat) (s u : M.State) (h : M.step s = .next u) :
    M.run (n + 1) s = M.run n u := by
  rw [core_run_succ, h]

theorem core_run_inv (M : Host.Core) (n : Nat) (s t : M.State) (h : M.run (n + 1) s = .next t) :
    ∃ u, M.step s = .next u ∧ M.run n u = .next t := by
  rw [core_run_succ] at h
  split at h
  · rename_i u hu
    exact ⟨u, hu, h⟩
  · cases h
  · cases h

/-- A run after a first step. -/
theorem run_next {n : Nat} {s u : State} (h : step s = .next u) :
    Host.Core.run Sys2Proof.core (n + 1) s = Host.Core.run Sys2Proof.core n u :=
  core_run_next Sys2Proof.core n s u h

/-- The first step of a run that ends in a next state. -/
theorem run_inv {n : Nat} {s t : State} (h : Host.Core.run Sys2Proof.core (n + 1) s = .next t) :
    ∃ u, step s = .next u ∧ Host.Core.run Sys2Proof.core n u = .next t :=
  core_run_inv Sys2Proof.core n s t h

end Sys2Proof.Machine
end

