-- ==== Sys2Proof/Tests/Slice0.lean ====
section
/-! SUPPORT. Tests of the model. Expected values come from spec/95_test_vectors.md (the vector is named beside
each test) or are worked by hand from the rule named; the witnesses show, for each statement with
hypotheses, a concrete state and operands that meet them together. -/

namespace Sys2Proof.Tests

open Sys2Proof Sys2Proof.Machine

/-! ## Small states: the parameters of spec/95_test_vectors.md -/

/-- GAMMA the identity, MAX_CHUNK 32, the default QUEUE_CAPACITY (unbounded), P = 0x1F, W = 0x2F, two
callers. -/
def prm : Params where
  gammaTable := Vector.ofFn (fun i : Fin 256 => BitVec.ofNat 8 i.val)
  chunkExtra := 31
  pollInterval := 50
  deviceAddr := 0x3F
  polWord := 0x1F#8
  dirWord := 0x2F#8
  callers := [0, 1]

/-- A running block whose worker is at CHECK. -/
def base : State where
  lifecycle := .running
  running := true
  queue := []
  handlers := Vector.replicate 5 ⟨none, none⟩
  pendingReg := []
  faults := ⟨false, false, false⟩
  phase := Phase.check
  lastSnapshot := 0x1F#8
  curSnapshot := none
  inflight := none
  events := []
  call := none
  cphases := []
  busLog := []
  errLog := []
  dispatchLog := []
  refused := none
  params := prm
  reply := none
  script := []
  choices := 0
  answers := []
  draws := 0

/-- A block before START. -/
def fresh : State :=
  { base with lifecycle := .uninitialized, running := false, phase := Phase.unspawned }

/-- Two callers. -/
def c0 : Agent := .caller 0
def c1 : Agent := .caller 1

/-- Two frames. -/
def frameA : Frame := List.replicate 128 0xC0#8
def frameB : Frame := List.replicate 128 0x40#8

/-- The handlers and events the tests use. -/
def h1 : HandlerRef := ⟨1⟩
def h2 : HandlerRef := ⟨2⟩
def pressA : Event := ⟨0, true⟩
def inCall : State := { base with phase := Phase.hwait, call := some ⟨h1, pressA⟩ }
def writing : State := { base with phase := Phase.write, inflight := some (frameA, 1) }
def stoppingAt (v : CPhase) : State := { base with lifecycle := .stopping, cphases := [(2, v)] }

/-- What a next state shows. -/
def shows {α : Type} (r : Result) (f : State → α) : Option α :=
  match r with
  | .next t => some (f t)
  | .fault _ => none
  | .refused _ => none

/-! ## Well-formedness: an ill-formed term for each check -/

theorem test_wf_short_frame : (Instr.push [0#8]).wellFormed = false := by decide
theorem test_wf_start_by_host : (Instr.start .host).wellFormed = false := by decide
theorem test_wf_stop_by_host : (Instr.stop .host).wellFormed = false := by decide
theorem test_wf_colour_by_host :
    (Instr.setColour .host (.int 0) (.int 0) (.int 0)).wellFormed = false := by decide
theorem test_wf_press_by_host : (Instr.onPress .host .all h1).wellFormed = false := by decide
theorem test_wf_release_by_host : (Instr.onRelease .host .all h1).wellFormed = false := by decide
theorem test_wf_good : (Instr.push frameA).wellFormed = true ∧ (Instr.start .hctx).wellFormed = true := by
  decide +kernel

/-! ## Decoding: words written out from R91 (CMD), R27 (PH), R33 (CPH), R92 (QOP, BOP, ENV) -/

def ops : Operands :=
  { r := .int 1, g := .int 2, b := .nonIntegral, sel := .one 3, handler := h2, frame := frameB,
    reg := 0x02#8, value := 0xA5#8, bytes := [0x80#8, 0xC0#8], ret := some .exc }

theorem test_decode_cmd :
    decode ⟨.cmd 0b00000001#8, c1, ops⟩ = .ok (.start c1) ∧
    decode ⟨.cmd 0b00000010#8, c1, ops⟩ = .ok (.stop c1) ∧
    decode ⟨.cmd 0b00000011#8, .hctx, ops⟩ = .ok (.setColour .hctx (.int 1) (.int 2) .nonIntegral) ∧
    decode ⟨.cmd 0b00000100#8, c1, ops⟩ = .ok (.onPress c1 (.one 3) h2) ∧
    decode ⟨.cmd 0b00000101#8, c1, ops⟩ = .ok (.onRelease c1 (.one 3) h2) ∧
    decode ⟨.cmd 0b00000110#8, .host, ops⟩ = .ok .hostExit := by
  and_intros <;> rfl

theorem test_decode_ph :
    decode ⟨.ph 0b0000#4, .host, ops⟩ = .ok .check ∧ decode ⟨.ph 0b0001#4, .host, ops⟩ = .ok .pop ∧
    decode ⟨.ph 0b0010#4, .host, ops⟩ = .ok .write ∧ decode ⟨.ph 0b0011#4, .host, ops⟩ = .ok .read ∧
    decode ⟨.ph 0b0100#4, .host, ops⟩ = .ok .cmp ∧ decode ⟨.ph 0b0101#4, .host, ops⟩ = .ok .dispatch ∧
    decode ⟨.ph 0b0110#4, .host, ops⟩ = .ok (.hwait (some .exc)) ∧
    decode ⟨.ph 0b0111#4, .host, ops⟩ = .ok .update ∧
    decode ⟨.ph 0b1000#4, .host, ops⟩ = .ok .sleep := by
  and_intros <;> rfl

theorem test_decode_cph :
    decode ⟨.cph 0b001#3, c1, ops⟩ = .ok (.sDrain1 c1) ∧
    decode ⟨.cph 0b010#3, c1, ops⟩ = .ok (.sPushoff c1) ∧
    decode ⟨.cph 0b011#3, .host, ops⟩ = .ok (.sDrain2 .host) ∧
    decode ⟨.cph 0b100#3, c1, ops⟩ = .ok (.sSignal c1) ∧
    decode ⟨.cph 0b101#3, c1, ops⟩ = .ok (.sJoin c1) ∧
    decode ⟨.cph 0b110#3, c1, ops⟩ = .ok (.sWait c1) := by
  and_intros <;> rfl

theorem test_decode_push :
    (decode ⟨.qop 0b01#2, .host, ops⟩).toOption = some (.push frameB) := by decide +kernel

theorem test_decode_qop :
    decode ⟨.qop 0b10#2, .host, ops⟩ = .ok .tryPop ∧
    decode ⟨.qop 0b11#2, .host, ops⟩ = .ok .drainWait := by
  and_intros <;> rfl

theorem test_decode_bop :
    decode ⟨.bop 0b00#2, .host, ops⟩ = .ok (.readRegister 0x02#8) ∧
    decode ⟨.bop 0b01#2, .host, ops⟩ = .ok (.writeRegister 0x02#8 0xA5#8) ∧
    decode ⟨.bop 0b10#2, .host, ops⟩ = .ok (.writeBlock 0x02#8 [0x80#8, 0xC0#8]) := by
  and_intros <;> rfl

theorem test_decode_env :
    decode ⟨.env 0b00#2, .host, ops⟩ = .ok .publish ∧
    decode ⟨.env 0b01#2, .host, ops⟩ = .ok .returnOk ∧
    decode ⟨.env 0b10#2, .host, ops⟩ = .ok .returnExc := by
  and_intros <;> rfl

/-- R100, R92, R27, R33, R91: every value that is no operation, by its name. -/
theorem test_decode_rejects :
    decode ⟨.cmd 0x00#8, c1, ops⟩ = .error .undefinedCommand ∧
    decode ⟨.cmd 0x07#8, c1, ops⟩ = .error .undefinedCommand ∧
    decode ⟨.cmd 0xFF#8, c1, ops⟩ = .error .undefinedCommand ∧
    decode ⟨.bop 0b11#2, c1, ops⟩ = .error .undefinedBusOp ∧
    decode ⟨.env 0b11#2, c1, ops⟩ = .error .undefinedEnvOp ∧
    decode ⟨.qop 0b00#2, c1, ops⟩ = .error .noQueueOp ∧
    decode ⟨.ph 9#4, .host, ops⟩ = .error .noWorkerStep ∧
    decode ⟨.ph 15#4, .host, ops⟩ = .error .noWorkerStep ∧
    decode ⟨.ph 10#4, .host, ops⟩ = .error .reservedPhase ∧
    decode ⟨.ph 14#4, .host, ops⟩ = .error .reservedPhase ∧
    decode ⟨.cph 0#3, c1, ops⟩ = .error .noCallerStep ∧
    decode ⟨.cph 7#3, c1, ops⟩ = .error .reservedCPhase ∧
    decode ⟨.cmd 0x06#8, c1, ops⟩ = .error .wrongIssuer ∧
    decode ⟨.cmd 0x01#8, .host, ops⟩ = .error .wrongIssuer ∧
    decode ⟨.qop 0b01#2, .host, { ops with frame := [0#8] }⟩ = .error .malformedFrame := by
  and_intros <;> rfl

/-- The numbers the table's formats share (log 1). -/
theorem test_table_words :
    decodeTableWord 8 1 = some (.start c0) ∧ decodeTableWord 8 6 = some .hostExit ∧
    decodeTableWord 8 0 = some .check ∧ decodeTableWord 8 8 = some .sleep ∧
    decodeTableWord 8 9 = none ∧ decodeTableWord 4 5 = some .dispatch ∧
    decodeTableWord 3 6 = some (.sWait c0) ∧ decodeTableWord 2 2 = some .tryPop ∧
    decodeTableWord 2 0 = some (.readRegister 0#8) ∧ decodeTableWord 2 4 = none := by decide

/-! ## Operands, encoder, chunks, comparator -/

/-- R99, V-REG. -/
theorem test_masks :
    selMask .all = 0b11111#5 ∧ selMask (.one 2) = 0b00100#5 ∧
    selMask (.set #v[false, true, false, false, true]) = 0b10010#5 ∧
    selMask (.set #v[false, false, false, false, false]) = 0#5 := by decide

/-- V-VAL. -/
theorem test_validation :
    (checkColour (.int 0) (.int 0) (.int 0)).toOption = some (0x00#8, 0x00#8, 0x00#8) ∧
    (checkColour (.int 255) (.int 255) (.int 255)).toOption = some (0xFF#8, 0xFF#8, 0xFF#8) ∧
    checkColour (.int 256) (.int 0) (.int 0) = .error .r ∧
    checkColour (.int (-1)) (.int 0) (.int 0) = .error .r ∧
    checkColour (.int 0) (.int 0) (.int 256) = .error .b ∧
    checkColour (.int 0) .nonIntegral (.int 300) = .error .g ∧
    checkColour (.int 300) (.int 300) (.int 300) = .error .r := by
  and_intros <;> rfl

/-- V-SER. -/
theorem test_ser :
    ser 0x00#8 = (List.replicate 8 [0x00#8, 0x40#8]).flatten ∧
    ser 0xFF#8 = (List.replicate 8 [0x80#8, 0xC0#8]).flatten ∧
    ser 0xEF#8 = [0x80#8, 0xC0#8, 0x80#8, 0xC0#8, 0x80#8, 0xC0#8, 0x00#8, 0x40#8,
      0x80#8, 0xC0#8, 0x80#8, 0xC0#8, 0x80#8, 0xC0#8, 0x80#8, 0xC0#8] ∧
    ser 0x80#8 = [0x80#8, 0xC0#8] ++ (List.replicate 7 [0x00#8, 0x40#8]).flatten ∧
    ser 0xA5#8 = [0x80#8, 0xC0#8, 0x00#8, 0x40#8, 0x80#8, 0xC0#8, 0x00#8, 0x40#8,
      0x00#8, 0x40#8, 0x80#8, 0xC0#8, 0x00#8, 0x40#8, 0x80#8, 0xC0#8] := by decide +kernel

/-- V-ENC: ENCODE(0x12, 0x34, 0x56), the channel order on the wire. -/
theorem test_channel_order :
    ((encodeFrame prm 0x12#8 0x34#8 0x56#8).drop 48).take 16 = [0x00#8, 0x40#8, 0x80#8, 0xC0#8, 0x00#8,
      0x40#8, 0x80#8, 0xC0#8, 0x00#8, 0x40#8, 0x80#8, 0xC0#8, 0x80#8, 0xC0#8, 0x00#8, 0x40#8] ∧
    ((encodeFrame prm 0x12#8 0x34#8 0x56#8).drop 80).take 16 = [0x00#8, 0x40#8, 0x00#8, 0x40#8, 0x00#8,
      0x40#8, 0x80#8, 0xC0#8, 0x00#8, 0x40#8, 0x00#8, 0x40#8, 0x80#8, 0xC0#8, 0x00#8, 0x40#8] := by
  decide +kernel

/-- V-ENC: 128 bytes, 64 with the clock high and 14 with the data high in OFF_FRAME. -/
theorem test_off_frame :
    (offFrame prm).length = 128 ∧
    ((offFrame prm).filter (fun x => x.getLsbD 6)).length = 64 ∧
    ((offFrame prm).filter (fun x => x.getLsbD 7)).length = 14 := by decide +kernel

/-- V-CHUNK. -/
theorem test_chunks :
    nchunks 1 frameA = 128 ∧ nchunks 32 frameA = 4 ∧ nchunks 50 frameA = 3 ∧ nchunks 127 frameA = 2 ∧
    nchunks 128 frameA = 1 ∧ nchunks 200 frameA = 1 ∧ (chunk 50 frameA 2).length = 28 ∧
    (chunk 127 frameA 1).length = 1 ∧ (chunk 200 frameA 0).length = 128 := by decide +kernel

/-- V-EDGE. -/
theorem test_edge :
    edge 0xFF#8 0x1F#8 = [] ∧ edge 0x1F#8 0x1E#8 = [⟨0, true⟩] ∧ edge 0x1E#8 0x1F#8 = [⟨0, false⟩] ∧
    edge 0x1F#8 0x1A#8 = [⟨0, true⟩, ⟨2, true⟩] ∧
    edge 0x15#8 0x0A#8 = [⟨0, true⟩, ⟨1, false⟩, ⟨2, true⟩, ⟨3, false⟩, ⟨4, true⟩] ∧
    edge 0x1F#8 0xDF#8 = [] ∧ pressMask 0x15#8 0x0A#8 = 0x15#8 ∧ releaseMask 0x15#8 0x0A#8 = 0x0A#8 ∧
    releaseMask 0xE0#8 0x1F#8 = 0x1F#8 := by decide

/-! ## Commands -/

/-- V-LC: START, answers ok, ok, ok. -/
theorem test_start_ok :
    shows (exec (.start c0) { fresh with answers := [.ok 0#8, .ok 0#8, .ok 0#8] })
      (fun t => (t.lifecycle, t.running, t.phase, t.lastSnapshot, t.busLog)) =
    some (.running, true, 0#4, 0xFF#8, [.write 0x3F 0x01#8 0x00#8 true,
      .write 0x3F 0x02#8 0x1F#8 true, .write 0x3F 0x03#8 0x2F#8 true]) := by decide

/-- V-LC: START, answers ok, fail. -/
theorem test_start_fails :
    shows (exec (.start c0) { fresh with answers := [.ok 0#8, .fail] })
      (fun t => (t.lifecycle, t.phase, t.busLog, t.reply)) =
    some (.uninitialized, 15#4, [.write 0x3F 0x01#8 0x00#8 true, .write 0x3F 0x02#8 0x1F#8 false],
      some (.agent c0, .err ⟨1, .reg 0x02#8⟩)) := by decide

/-- V-LC: STOP while running, and by a second caller. -/
theorem test_stop_running :
    shows (exec (.stop c0) base) (fun t => (t.lifecycle, t.cphases)) = some (.stopping, [(2, 1#3)]) := by
  decide

theorem test_stop_second :
    shows (exec (.stop c1) (stoppingAt CPhase.sDrain1)) (fun t => (t.lifecycle, t.cphases)) =
      some (.stopping, [(2, 1#3), (3, 6#3)]) := by decide

/-- R273: the host's exit takes the STOP sequence. -/
theorem test_host_exit :
    shows (exec .hostExit base) (fun t => (t.lifecycle, t.cphases)) = some (.stopping, [(0, 1#3)]) := by
  decide

/-- V-ENC, R150: SET_COLOUR 255, 0, 0: the red payload byte is byte 5. -/
theorem test_set_colour :
    shows (exec (.setColour c0 (.int 255) (.int 0) (.int 0)) base)
      (fun t => (t.queue.length, (t.queue.flatten.drop 80).take 2, t.reply)) =
    some (1, [0x80#8, 0xC0#8], some (.agent c0, .ok)) := by decide +kernel

/-- L1.4. -/
theorem test_set_colour_invalid :
    shows (exec (.setColour c0 (.int 0) (.int 999) (.int 0)) base)
      (fun t => (t.queue, t.errLog, t.reply)) =
    some ([], [], some (.agent c0, .err ⟨3, .channel .g⟩)) := by decide

/-- V-REG. -/
theorem test_on_press :
    shows (exec (.onPress c0 .all h1) base) (fun t => t.pendingReg) =
      some [⟨0, .press, h1⟩, ⟨1, .press, h1⟩, ⟨2, .press, h1⟩, ⟨3, .press, h1⟩, ⟨4, .press, h1⟩] := by
  decide

theorem test_on_release :
    shows (exec (.onRelease c0 (.set #v[false, true, false, false, true]) h1) base)
      (fun t => t.pendingReg) = some [⟨1, .release, h1⟩, ⟨4, .release, h1⟩] := by decide

/-! ## Worker steps (V-W) -/

theorem test_check :
    shows (exec .check base) (fun t => t.phase) = some 1#4 ∧
    shows (exec .check { base with running := false }) (fun t => t.phase) = some 9#4 := by decide

theorem test_pop :
    shows (exec .pop { base with phase := 1#4, queue := [[0x80#8], [0x40#8]] })
      (fun t => (t.queue, t.inflight, t.phase)) = some ([[0x40#8]], some ([0x80#8], 0), 2#4) := by decide

theorem test_write_last :
    shows (exec .write { base with
        phase := 2#4, inflight := some (frameA, 3), answers := [.ok 0#8] })
      (fun t => (t.inflight, t.phase, t.busLog)) =
    some (none, 3#4, [.block 0x3F 0x01#8 (List.replicate 32 0xC0#8) true]) := by decide +kernel

theorem test_write_fails :
    shows (exec .write { writing with answers := [.fail] })
      (fun t => (t.inflight, t.phase, t.errLog)) =
    some (none, 8#4, [⟨2, .bus .write 0x01#8 1⟩]) := by decide +kernel

theorem test_read :
    shows (exec .read { base with phase := 3#4, answers := [.ok 0x1E#8] })
      (fun t => (t.curSnapshot, t.phase)) = some (some 0x1E#8, 4#4) := by decide

theorem test_read_fails :
    shows (exec .read { base with phase := 3#4, answers := [.fail] })
      (fun t => (t.phase, t.lastSnapshot, t.errLog)) =
    some (8#4, 0x1F#8, [⟨2, .bus .read 0x00#8 0⟩]) := by decide

theorem test_cmp :
    shows (exec .cmp { base with phase := 4#4, curSnapshot := some 0x1A#8 })
      (fun t => (t.events, t.phase)) = some ([⟨0, true⟩, ⟨2, true⟩], 5#4) := by decide

theorem test_dispatch :
    shows (exec .dispatch { base with
        phase := 5#4, events := [pressA], handlers := base.handlers.set 0 ⟨some h1, some h2⟩ })
      (fun t => (t.events, t.call, t.dispatchLog, t.phase)) =
    some ([], some ⟨h1, pressA⟩, [⟨h1, pressA⟩], 6#4) := by decide

theorem test_dispatch_no_handler :
    shows (exec .dispatch { base with
        phase := 5#4, events := [⟨2, true⟩], handlers := base.handlers.set 2 ⟨none, some h2⟩ })
      (fun t => (t.events, t.dispatchLog, t.phase)) = some ([], [], 5#4) := by decide

theorem test_hwait :
    shows (exec (.hwait none) inCall) (fun t => t.phase) = some 6#4 ∧
    shows (exec (.hwait (some .exc)) inCall) (fun t => (t.phase, t.call, t.errLog)) =
      some (5#4, none, [⟨4, .event pressA⟩]) := by decide

theorem test_update :
    shows (exec .update { base with phase := 7#4, curSnapshot := some 0xDA#8 })
      (fun t => (t.lastSnapshot, t.curSnapshot, t.phase)) = some (0xDA#8, none, 8#4) := by decide

theorem test_sleep : shows (exec .sleep { base with phase := 8#4 }) (fun t => t.phase) = some 0#4 := by
  decide

/-! ## The later steps of STOP (P1 steps 32 to 48) -/

theorem test_drain1 :
    shows (exec (.sDrain1 c0) (stoppingAt 1#3)) (fun t => t.cphases) = some [(2, 2#3)] ∧
    shows (exec (.sDrain1 c0) { stoppingAt 1#3 with inflight := some ([], 2) }) (fun t => t.cphases) =
      some [(2, 1#3)] := by decide

theorem test_pushoff :
    shows (exec (.sPushoff c0) (stoppingAt 2#3)) (fun t => (t.cphases, t.queue.map List.length)) =
      some ([(2, 3#3)], [128]) := by decide +kernel

theorem test_drain2 :
    shows (exec (.sDrain2 c0) (stoppingAt 3#3)) (fun t => t.cphases) = some [(2, 4#3)] ∧
    shows (exec (.sDrain2 c0) { stoppingAt 3#3 with queue := [[]] }) (fun t => t.cphases) =
      some [(2, 3#3)] := by decide

theorem test_signal :
    shows (exec (.sSignal c0) (stoppingAt 4#3)) (fun t => (t.running, t.cphases)) =
      some (false, [(2, 5#3)]) := by decide

theorem test_join :
    shows (exec (.sJoin c0) { stoppingAt 5#3 with phase := 9#4 }) (fun t => (t.lifecycle, t.cphases)) =
      some (.stopped, []) ∧
    shows (exec (.sJoin c0) (stoppingAt 5#3)) (fun t => (t.lifecycle, t.cphases)) =
      some (.stopping, [(2, 5#3)]) := by decide

theorem test_wait :
    shows (exec (.sWait c0) { stoppingAt 6#3 with lifecycle := .stopped }) (fun t => t.cphases) =
      some [] ∧
    shows (exec (.sWait c0) (stoppingAt 6#3)) (fun t => t.cphases) = some [(2, 6#3)] := by decide

/-! ## The queue port (V-Q), the bus port, the environment -/

theorem test_push :
    shows (exec (.push [0x80#8]) { base with queue := [[0x80#8]] }) (fun t => t.queue) =
      some [[0x80#8], [0x80#8]] := by decide

theorem test_push_full :
    shows (exec (.push [0x01#8]) { base with
        queue := [[0x80#8], [0x40#8]], params := { prm with capacityExtra := some 1 } })
      (fun t => (t.queue, t.faults)) = some ([[0x80#8], [0x40#8]], ⟨false, true, false⟩) := by decide

theorem test_try_pop :
    shows (exec .tryPop { base with queue := [[0x80#8], [0x40#8]] }) (fun t => (t.queue, t.reply)) =
      some ([[0x40#8]], some (.port, .popped (some [0x80#8]))) ∧
    shows (exec .tryPop base) (fun t => t.reply) = some (some (.port, .popped none)) := by decide

theorem test_drain_wait :
    shows (exec .drainWait base) (fun t => t.reply) = some (some (.port, .done)) ∧
    shows (exec .drainWait { base with inflight := some ([], 2) }) (fun t => t.reply) = some none := by
  decide

/-- R120, R123. -/
theorem test_read_register :
    shows (exec (.readRegister 0x00#8) { base with answers := [.ok 0x1E#8] })
      (fun t => (t.reply, t.refused)) = some (some (.port, .readAnswer (.ok 0x1E#8)), none) ∧
    shows (exec (.readRegister 0x01#8) base) (fun t => (t.busLog, t.refused)) =
      some ([], some .badBusRequest) := by decide

/-- R121, R123. -/
theorem test_write_register :
    shows (exec (.writeRegister 0x03#8 0xA5#8) { base with answers := [.fail] })
      (fun t => (t.busLog, t.refused)) = some ([.write 0x3F 0x03#8 0xA5#8 false], none) ∧
    shows (exec (.writeRegister 0x00#8 0xA5#8) base) (fun t => (t.busLog, t.refused)) =
      some ([], some .badBusRequest) := by decide

/-- R122, R123: 33 bytes are more than MAX_CHUNK = 32. -/
theorem test_write_block :
    shows (exec (.writeBlock 0x01#8 [0x80#8]) { base with answers := [.ok 0#8] })
      (fun t => (t.busLog, t.refused)) = some ([.block 0x3F 0x01#8 [0x80#8] true], none) ∧
    shows (exec (.writeBlock 0x01#8 []) base) (fun t => t.refused) = some (some .badBusRequest) ∧
    shows (exec (.writeBlock 0x01#8 (List.replicate 33 0#8)) base) (fun t => (t.busLog, t.refused)) =
      some ([], some .badBusRequest) := by decide

/-- V-REG: partial publication, and the other slot of the button kept. -/
theorem test_publish :
    shows (exec .publish { base with
        pendingReg := [⟨0, .press, h1⟩, ⟨1, .press, h1⟩]
        handlers := base.handlers.set 0 ⟨none, some h2⟩ })
      (fun t => (t.pendingReg, t.handler 0 .press, t.handler 0 .release, t.handler 1 .press)) =
    some ([⟨1, .press, h1⟩], some h1, some h2, none) := by decide

theorem test_return_ok :
    shows (exec .returnOk inCall) (fun t => (t.phase, t.call, t.errLog)) = some (5#4, none, []) := by
  decide

theorem test_return_exc :
    shows (exec .returnExc inCall) (fun t => (t.phase, t.call, t.errLog)) =
      some (5#4, none, [⟨4, .event pressA⟩]) := by decide

/-! ## Fetching -/

/-- A table word placed is fetched and run by the very next step. -/
theorem test_fetch_word :
    shows (step ((fresh.withFetchWord 8 4))) (fun t => t.pendingReg.length) = some 5 ∧
    shows (step ((fresh.withFetchWord 4 1))) (fun t => t.phase) = some 3#4 ∧
    shows (step ((base.withFetchWord 3 4))) (fun t => t.running) = some false := by decide

/-- R15: a caller that is not one of the block's issues nothing, until a word placed for it makes it one
(log 3). -/
theorem test_callers :
    shows (exec (.stop (.caller 2)) base) (fun t => (t.lifecycle, t.cphases)) = some (.running, []) ∧
    State.canIssue { base with params := { prm with callers := [] } } c0 = false ∧
    State.canIssue (State.withFetchWord { base with params := { prm with callers := [] } } 8 2) c0 =
      true := by decide

/-- R331: once S_DRAIN2 has completed (S_SIGNAL, S_JOIN), POP leaves a frame pushed since in the queue; before
that (S_DRAIN2 itself) it takes it. -/
theorem test_pop_after_drain2 :
    shows (exec .pop { stoppingAt 4#3 with phase := Phase.pop, queue := [frameA] })
      (fun t => (t.queue, t.inflight, t.phase)) = some ([frameA], none, Phase.read) ∧
    shows (exec .pop { stoppingAt 5#3 with phase := Phase.pop, queue := [frameA] })
      (fun t => (t.queue, t.phase)) = some ([frameA], Phase.read) ∧
    shows (exec .pop { stoppingAt 3#3 with phase := Phase.pop, queue := [frameA] })
      (fun t => (t.queue, t.inflight)) = some ([], some (frameA, 0)) := by decide

/-- V-ERR: CMD 0x07; V-W: phase 12; log 17: a byte list that is no frame. -/
theorem test_undecoded :
    shows (base.takes (.agent (.command c0 0x07#8 ops))) (fun t => t.refused) =
      some (some .undefinedCommand) ∧
    shows (State.takes { base with phase := 12#4 } (.agent (.workerStep none)))
      (fun t => (t.faults.badPhase, t.phase)) = some (true, 12#4) ∧
    shows (base.takes (.queuePort 1#2 { frame := [0#8] })) (fun t => t.queue) = none := by decide

/-! ## Witnesses: what each statement's hypotheses are met by -/

def spawned : State := { fresh with answers := [.ok 0#8, .ok 0#8, .ok 0#8] }
def atCmp : State :=
  { base with
    phase := 4#4, curSnapshot := some 0x1E#8
    busLog := [.read 0x3F 0x00#8 (.ok 0x1F#8), .read 0x3F 0x00#8 (.ok 0x1E#8)] }
def atDispatch : State :=
  { base with
    phase := 5#4, curSnapshot := some 0x1E#8, events := [pressA]
    handlers := base.handlers.set 0 ⟨some h1, none⟩ }
def ended : State := { base with lifecycle := .stopped, running := false, phase := 9#4 }
def full : State := { base with queue := [frameA], params := { prm with capacityExtra := some 0 } }
def deadlocked : State :=
  { inCall with lifecycle := .stopping, cphases := [(1, 3#3)], queue := [frameA] }

theorem test_witness_TableWordsDecode :
    c0 ≠ .host ∧ Agent.hctx ≠ .host ∧ ops.frame.length = 128 ∧
    ({ ops with frame := [] } : Operands).frame.length ≠ 128 := by decide +kernel

theorem test_witness_DecodeOfEncode :
    (Instr.onRelease .hctx .all h1).wellFormed = true ∧ (Instr.sJoin .host).wellFormed = true := by decide

theorem test_witness_DecodeKeepsSelector :
    decode ⟨.cmd 0x05#8, c1, ops⟩ = .ok (.onRelease c1 (.one 3) h2) ∧
    decode ⟨.cph 0b101#3, .host, ops⟩ = .ok (.sJoin .host) := by
  and_intros <;> rfl

theorem test_witness_UndefinedSelectorsRefused :
    base.refused = none ∧ (0x00#8).toNat = 0 ∧ 7 ≤ (0x07#8).toNat ∧ 7 ≤ (0xFF#8).toNat := by decide

theorem test_witness_UnreachableStatesSetBadPhase :
    (10 ≤ ({ base with phase := 10#4 } : State).phase.toNat ∧
      ({ base with phase := 14#4 } : State).phase.toNat ≤ 14) ∧
    shows (State.takes { base with phase := 14#4 } (.agent (.workerStep none))) (fun t => t.phase) =
      some 14#4 ∧
    (stoppingAt 7#3).cphase c0 = 7#3 ∧
    shows ((stoppingAt 7#3).takes (.agent (.callerStep c0))) (fun t => t.faults.badPhase) = some true := by
  decide

theorem test_witness_AgentsWithoutStepHold :
    ended.phase = Phase.exited ∧ fresh.phase = Phase.unspawned ∧ base.cphase c0 = CPhase.idle := by decide

theorem test_witness_StepRunsDecoded :
    (decode (fresh.withFetchWord 8 1).fetch = .ok (.start c0)) ∧ base.script = [] ∧
    (fresh.withFetchWord 8 1).script = [.agent (.command c0 0x01#8 {})] := by
  refine ⟨rfl, rfl, rfl⟩

theorem test_witness_SerClosedForm_FrameLayout : 0 < 16 ∧ 15 < 16 ∧ 7 < 8 ∧ 0 < 128 ∧ 127 < 128 := by decide

theorem test_witness_FrameInvariants :
    (encodeFrame prm 1#8 2#8 3#8)[127]? = some 0x40#8 ∧
    (encodeFrame prm 1#8 2#8 3#8)[32]? = some 0x80#8 := by decide +kernel

theorem test_witness_ColourValidation :
    channelByte (.int 0) = some 0#8 ∧ channelByte (.int 255) = some 0xFF#8 ∧
    channelByte (.int 256) = none ∧ channelByte (.int (-1)) = none ∧ channelByte .nonIntegral = none := by
  decide

theorem test_witness_ChunksOfFrame :
    1 ≤ 50 ∧ 0 < nchunks 50 frameA ∧ 0 + 1 < nchunks 50 frameA ∧ 2 + 1 = nchunks 50 frameA ∧
    0 + 1 = nchunks 200 frameA := by decide +kernel

theorem test_witness_EdgeComparator : 5 ≤ 5 ∧ (⟨0, true⟩ : Event) ∈ edge 0x1F#8 0x1E#8 := by decide

theorem test_witness_OneEdgePerButton :
    (⟨2, true⟩ : Event) ∈ edge 0x1F#8 0x1A#8 ∧ (⟨0, true⟩ : Event) ∈ edge 0x1F#8 0x1A#8 := by decide

theorem test_witness_CmpGuardRedundant :
    0xFF#8 &&& 0x1F#8 = 0x3F#8 &&& 0x1F#8 ∧ atCmp.phase = Phase.cmp ∧ atCmp.curSnapshot = some 0x1E#8 ∧
    ({ atCmp with curSnapshot := some 0x1F#8 } : State).lastSnapshot = 0x1F#8 := by decide

theorem test_witness_StartSpawnsWorker :
    spawned.canIssue c0 = true ∧ spawned.lifecycle = .uninitialized ∧
    ∀ k, k < 3 → Answer.isOk (spawned.answerAt k) = true := by decide

theorem test_witness_StartConfigurationFailure :
    ({ fresh with answers := [.fail] } : State).answerAt 0 = .fail ∧ (0 < 3) ∧
    ({ fresh with answers := [.ok 0#8, .ok 0#8, .fail] } : State).canIssue c0 = true ∧
    ({ fresh with answers := [.ok 0#8, .ok 0#8, .fail] } : State).lifecycle = .uninitialized ∧
    (∀ k, k < 2 → Answer.isOk
      (({ fresh with answers := [.ok 0#8, .ok 0#8, .fail] } : State).answerAt k) = true) ∧
    ({ fresh with answers := [.ok 0#8, .ok 0#8, .fail] } : State).answerAt 2 = .fail := by decide

theorem test_witness_IllegalStart :
    base.canIssue c0 = true ∧ base.lifecycle ≠ .uninitialized ∧ ended.canIssue c0 = true ∧
    ended.lifecycle ≠ .uninitialized := by decide

theorem test_witness_StopEntry :
    (ended.canIssue c0 = true ∧ ended.lifecycle = .stopped) ∧
    (fresh.canIssue .host = true ∧ fresh.lifecycle = .uninitialized) ∧
    ((stoppingAt 1#3).canIssue c1 = true ∧ (stoppingAt 1#3).lifecycle = .stopping) ∧
    (base.canIssue .host = true ∧ base.lifecycle = .running) ∧ inCall.canIssue .hctx = true := by decide

theorem test_witness_SetColourPushes :
    base.canIssue c0 = true ∧ base.hasRoom ∧
    ({ full with queue := [] } : State).canIssue c0 = true ∧ ({ full with queue := [] } : State).hasRoom ∧
    (0 : Int) ≤ 0 ∧ (0 : Int) ≤ 255 ∧ (255 : Int) ≤ 255 :=
  ⟨by decide, .inl rfl, by decide, .inr ⟨0, rfl, by decide⟩, by decide, by decide, by decide⟩

theorem test_witness_InvalidColourChangesNothing :
    base.canIssue c0 = true ∧ checkColour (.int 0) .nonIntegral (.int 300) = .error .g :=
  ⟨by decide, rfl⟩

theorem test_witness_QueueOverflow :
    full.params.capacityExtra = some 0 ∧ 0 + 1 ≤ full.queue.length ∧ full.canIssue c0 = true ∧
    checkColour (.int 0) (.int 255) (.int 1) = .ok (0#8, 0xFF#8, 1#8) ∧
    ({ full with cphases := [(2, 2#3)] } : State).cphase c0 = 2#3 ∧
    ({ full with cphases := [(2, 2#3)] } : State).present c0 = true :=
  ⟨by decide, by decide, by decide, rfl, by decide, by decide⟩

theorem test_witness_RegistrationAppends : base.canIssue c0 = true ∧ inCall.canIssue .hctx = true := by
  decide

theorem test_witness_BlockedAgentIssuesNothing :
    (stoppingAt 6#3).cphase c0 ≠ CPhase.idle ∧ base.call = none ∧
    ({ stoppingAt 6#3 with cphases := [(0, 6#3)] } : State).cphase .host ≠ CPhase.idle ∧
    2 ∉ base.params.callers := by decide

theorem test_witness_CheckTestsRunning :
    base.phase = Phase.check ∧ base.running = true ∧
    ({ base with running := false } : State).running = false ∧
    shows (exec .check { base with running := false }) (fun t => t.phase) = some Phase.exited := by
  decide

theorem test_witness_PopTakesOldest :
    ({ base with phase := 1#4, queue := [[], [0#8]] } : State).phase = Phase.pop ∧
    ({ base with phase := 1#4, queue := [[], [0#8]] } : State).queue = [] :: [[0#8]] ∧
    ({ base with phase := 1#4 } : State).queue = [] ∧
    ({ base with phase := 1#4 } : State).lifecycle ≠ .stopped ∧
    (∀ c, ({ base with phase := 1#4 } : State).cphase c = CPhase.idle) ∧
    ({ stoppingAt 4#3 with phase := 1#4 } : State).cphase c0 = CPhase.sSignal ∧
    ({ stoppingAt 5#3 with phase := 1#4 } : State).cphase c0 = CPhase.sJoin ∧
    ({ ended with phase := 1#4 } : State).lifecycle = .stopped :=
  ⟨rfl, rfl, rfl, by decide, fun _ => rfl, rfl, rfl, rfl⟩

theorem test_witness_WriteChunkOk :
    writing.phase = Phase.write ∧ writing.inflight = some (frameA, 1) ∧
    1 < nchunks writing.maxChunk frameA ∧ 3 < nchunks writing.maxChunk frameA ∧
    Answer.isOk (({ writing with answers := [.ok 0#8] } : State).nextAnswer) = true := by decide +kernel

theorem test_witness_BusFailureInWorker :
    ({ writing with answers := [.fail] } : State).nextAnswer = .fail ∧ writing.phase = Phase.write ∧
    1 < nchunks writing.maxChunk frameA ∧ ({ writing with phase := 3#4 } : State).phase = Phase.read := by
  decide +kernel

theorem test_witness_ReadSamplesInput :
    ({ base with phase := 3#4, answers := [.ok 0x1E#8] } : State).phase = Phase.read ∧
    ({ base with phase := 3#4, answers := [.ok 0x1E#8] } : State).nextAnswer = .ok 0x1E#8 := by decide

theorem test_witness_DispatchInvokes :
    atDispatch.phase = Phase.dispatch ∧ ({ atDispatch with events := [] } : State).events = [] ∧
    atDispatch.events = [⟨0, true⟩] ∧ atDispatch.handler 0 .press = some h1 ∧
    ({ atDispatch with events := [⟨0, false⟩] } : State).handler 0 .release = none := by decide

theorem test_witness_HandlerReturnLiftsHold :
    inCall.phase = Phase.hwait ∧ inCall.call = some ⟨h1, pressA⟩ ∧ inCall.cphase .hctx = CPhase.idle := by
  decide

theorem test_witness_UpdateAndSleep :
    ({ atCmp with phase := 7#4 } : State).phase = Phase.update ∧
    ({ atCmp with phase := 7#4 } : State).curSnapshot = some 0x1E#8 ∧
    ({ base with phase := 8#4 } : State).phase = Phase.sleep := by decide

theorem test_witness_UnreachableStatesSetBadPhase_missing :
    base.curSnapshot = none ∧ ({ base with phase := 4#4 } : State).phase = Phase.cmp ∧
    ({ base with phase := 7#4 } : State).phase = Phase.update ∧ base.inflight = none ∧
    ({ base with phase := 2#4 } : State).phase = Phase.write := by decide

theorem test_witness_WorkerStepsHold :
    base.phase ≠ Phase.hwait ∧ base.call = none ∧ deadlocked.cphase .hctx ≠ CPhase.idle ∧
    ended.phase ≠ Phase.check ∧ ended.phase ≠ Phase.pop ∧ ended.phase ≠ Phase.write ∧
    ended.phase ≠ Phase.read ∧ ended.phase ≠ Phase.cmp ∧ ended.phase ≠ Phase.dispatch ∧
    ended.phase ≠ Phase.update ∧ ended.phase ≠ Phase.sleep := by decide

theorem test_witness_DrainSteps :
    (stoppingAt 1#3).present c0 = true ∧ (stoppingAt 1#3).queue = [] ∧
    (stoppingAt 1#3).inflight = none ∧ (stoppingAt 1#3).cphase c0 = 1#3 ∧
    (stoppingAt 3#3).cphase c0 = 3#3 ∧ ({ stoppingAt 3#3 with queue := [[]] } : State).queue ≠ [] ∧
    ({ stoppingAt 3#3 with inflight := some ([], 0) } : State).inflight ≠ none := by decide

theorem test_witness_PushOffAndSignal :
    (stoppingAt 2#3).present c0 = true ∧ (stoppingAt 2#3).cphase c0 = 2#3 ∧ (stoppingAt 2#3).hasRoom ∧
    ({ full with cphases := [(2, 2#3)] } : State).cphase c0 = 2#3 ∧
    ((stoppingAt 4#3).present c0 = true ∧ (stoppingAt 4#3).cphase c0 = 4#3) ∧
    ¬ ({ full with cphases := [(2, 2#3)] } : State).hasRoom := by
  refine ⟨by decide, by decide, .inl rfl, by decide, by decide, ?_⟩
  rintro (h | ⟨j, h, hl⟩)
  · cases h
  · cases h
    exact absurd hl (by decide)

theorem test_witness_JoinAndWait :
    (stoppingAt 5#3).present c0 = true ∧ (stoppingAt 5#3).cphase c0 = 5#3 ∧
    ({ stoppingAt 5#3 with phase := 9#4 } : State).phase = Phase.exited ∧
    (stoppingAt 5#3).phase ≠ Phase.exited ∧ (stoppingAt 6#3).cphase c0 = 6#3 ∧
    ({ stoppingAt 6#3 with lifecycle := .stopped } : State).lifecycle = .stopped ∧
    (stoppingAt 6#3).lifecycle ≠ .stopped := by decide

theorem test_witness_QueuePort :
    base.hasRoom ∧ ({ base with queue := [[], [0#8]] } : State).queue = [] :: [[0#8]] ∧ base.queue = [] ∧
    base.inflight = none ∧ writing.inflight ≠ none :=
  ⟨.inl rfl, rfl, rfl, rfl, by decide⟩

theorem test_witness_BusPort :
    1 ≤ (List.replicate 1 0#8).length ∧ (List.replicate 1 0#8).length ≤ base.maxChunk ∧
    (List.replicate 32 0#8).length ≤ base.maxChunk := by decide

theorem test_witness_BadBusRequestRefused :
    base.refused = none ∧ (0x01#8 ≠ 0x00#8) ∧ (0x04#8 ≠ 0x01#8 ∧ 0x04#8 ≠ 0x02#8 ∧ 0x04#8 ≠ 0x03#8) ∧
    base.maxChunk < (List.replicate 33 0#8).length := by decide

theorem test_witness_PublishReplacesSlot :
    ({ base with pendingReg := [⟨1, .press, h1⟩] } : State).pendingReg = [⟨1, .press, h1⟩] ∧
    base.pendingReg = [] := by decide

theorem test_witness_SlotsAreNeverEmptied :
    atDispatch.handler 0 .press ≠ none ∧
    shows (step { atDispatch with script := [.agent (.environment 0#2)], pendingReg := [⟨0, .press, h2⟩] })
      (fun t => t.handler 0 .press) = some (some h2) := by decide

theorem test_witness_FrameSharedState_FrameWorkerState_FrameLogs :
    shows (exec .check base) (fun t => t.queue) = some base.queue ∧ writesLifecycle .check = false ∧
    writesRunning .check = false ∧ writesQueue .check = false ∧ writesHandlers .check = false ∧
    writesPendingReg .check = false ∧ writesIllegalStart .check = false ∧
    writesOverflow .check = false ∧ writesBadPhase .check = false ∧ writesRefused .check = false ∧
    cphaseOwner .check ≠ some c0 ∧ writesPhase .publish = false ∧
    writesLastSnapshot .check = false ∧ writesCurSnapshot .check = false ∧
    writesInflight .check = false ∧ writesEvents .check = false ∧ writesCall .check = false ∧
    writesBusLog .check = false ∧ writesErrLog .check = false ∧ writesDispatchLog .check = false := by
  decide

theorem test_witness_FaultsAndRefusalSticky :
    shows (step { base with
        faults := ⟨true, true, true⟩, refused := some .badBusRequest
        script := [.agent (.command c0 0x00#8 {})] }) (fun t => (t.faults, t.refused)) =
      some (⟨true, true, true⟩, some .badBusRequest) := by decide

/-- The lifecycle part of the invariant, for a state in which nobody stops. -/
theorem lifecycle_coherent_of_idle (s : State) (hc : s.cphases = [])
    (h : (s.lifecycle = .running ∧ s.running = true ∧ s.phase ≠ Phase.exited ∧
        s.phase ≠ Phase.unspawned) ∨
      (s.lifecycle = .stopped ∧ s.running = false ∧ s.phase = Phase.exited)) : s.LifecycleCoherent := by
  have idle : ∀ c, s.cphase c = 0#3 := fun c => by simp [State.cphase, hc, phaseOf]
  rcases h with ⟨h1, h2, h3, h4⟩ | ⟨h1, h2, h3⟩ <;> constructor <;> simp_all [State.stopper]

theorem base_coherent : base.Coherent :=
  ⟨by constructor <;> simp [base],
    lifecycle_coherent_of_idle _ rfl (.inl ⟨rfl, rfl, by decide, by decide⟩)⟩

theorem atCmp_coherent : atCmp.Coherent :=
  ⟨by constructor <;> simp [atCmp, base],
    lifecycle_coherent_of_idle _ rfl (.inl ⟨rfl, rfl, by decide, by decide⟩)⟩

theorem ended_coherent : ended.Coherent :=
  ⟨by constructor <;> simp [ended, base], lifecycle_coherent_of_idle _ rfl (.inr ⟨rfl, rfl, rfl⟩)⟩

theorem test_witness_LifecycleForward :
    base.Coherent ∧ shows (exec (.stop c0) base) (fun t => t.lifecycle) = some .stopping :=
  ⟨base_coherent, by decide⟩

theorem test_witness_StepKeepsCoherent :
    ({ base with script := [.agent (.workerStep none)] } : State).Coherent ∧
    shows (step { base with script := [.agent (.workerStep none)] }) (fun t => t.phase) =
      some Phase.pop :=
  ⟨⟨by constructor <;> simp [base],
    lifecycle_coherent_of_idle _ rfl (.inl ⟨rfl, rfl, by decide, by decide⟩)⟩, by decide⟩

theorem test_witness_StepKeepsCanonicalPhases :
    phasesWf 0 ({ stoppingAt 4#3 with script := [.agent (.callerStep c0)] } : State).cphases = true ∧
    shows (step { stoppingAt 4#3 with script := [.agent (.callerStep c0)] }) (fun t => t.cphases) =
      some [(2, 5#3)] := by decide

theorem test_witness_StepKeepsSnapshotChain :
    atCmp.Coherent ∧ atCmp.SnapshotChain ∧ atCmp.phase = Phase.cmp ∧
    shows (atCmp.takes (.agent (.workerStep none))) (fun t => t.events) = some [⟨0, true⟩] :=
  ⟨atCmp_coherent, ⟨fun h => (by cases h), fun _ => ⟨[0x1F#8], rfl, rfl⟩⟩, rfl, by decide⟩

theorem test_witness_BusOwnership :
    base.Coherent ∧ ended.Coherent ∧ ended.phase = Phase.exited ∧
    shows (ended.takes (.agent (.workerStep none))) (fun t => t.phase) = some Phase.exited ∧
    shows (State.takes { base with phase := 3#4, answers := [.fail] } (.agent (.workerStep none)))
      (fun t => t.busLog.length) = some 1 :=
  ⟨base_coherent, ended_coherent, rfl, by decide, by decide⟩

/-- A run in which the last chunk of a frame of two is written. -/
def twoChunks : State :=
  { base with
    phase := 1#4, queue := [frameA], params := { prm with chunkExtra := 63 }
    answers := [.ok 0#8, .ok 0#8]
    script := [.agent (.workerStep none), .agent (.workerStep none), .agent (.workerStep none)] }

theorem test_witness_FifoLaw :
    shows (Host.Core.run Sys2Proof.core 1 twoChunks) (fun t => t.inflight) = some (some (frameA, 0)) := by
  decide +kernel

theorem test_witness_NoInterleavingOnWire :
    twoChunks.Coherent ∧ twoChunks.agentsOnly ∧ twoChunks.inflight = none ∧
    shows (Host.Core.run Sys2Proof.core 3 twoChunks) (fun t => wire t.busLog) = some frameA ∧
    shows (Host.Core.run Sys2Proof.core 3 { twoChunks with answers := [.ok 0#8, .fail] })
      (fun t => (wire t.busLog, t.inflight, writeFailures t.errLog)) =
        some (frameA.take 64, none, 1) := by
  refine ⟨⟨?_, lifecycle_coherent_of_idle _ rfl (.inl ⟨rfl, rfl, by decide, by decide⟩)⟩, ?_, rfl,
    by decide +kernel, by decide +kernel⟩
  · constructor <;> simp [twoChunks, base, frameA]
  · simp [State.agentsOnly, twoChunks, Stimulus.isAgent]

/-- A caller stops an idle block: STOP, the drains, the all-off frame in one chunk, the join. -/
def stopRun : State :=
  { base with
    params := { prm with chunkExtra := 127 }
    answers := [.ok 0#8, .fail]
    script := [.agent (.command c0 0x02#8 {}), .agent (.callerStep c0), .agent (.callerStep c0),
      .agent (.workerStep none), .agent (.workerStep none), .agent (.workerStep none),
      .agent (.callerStep c0), .agent (.callerStep c0), .agent (.workerStep none),
      .agent (.workerStep none), .agent (.workerStep none), .agent (.callerStep c0)] }

theorem test_witness_StopPopsEverythingThenOff :
    stopRun.Coherent ∧ stopRun.agentsOnly ∧ stopRun.lifecycle = .running ∧
    shows (Host.Core.run Sys2Proof.core 12 stopRun)
      (fun t => (t.lifecycle, t.phase, t.faults.queueOverflow)) = some (.stopped, 9#4, false) := by
  refine ⟨⟨?_, lifecycle_coherent_of_idle _ rfl (.inl ⟨rfl, rfl, by decide, by decide⟩)⟩, ?_, rfl,
    by decide +kernel⟩
  · constructor <;> simp [stopRun, base]
  · simp [State.agentsOnly, stopRun, Stimulus.isAgent]

/-- P5, R327: the handler that called STOP waits for a frame only the worker can pop: no agent has a step of
its own. The undefined ENV value is no agent's step. -/
theorem test_deadlock_is_stuck : deadlocked.stuck := by
  have idle : ∀ c, c ≠ .hctx → deadlocked.cphase c = 0#3 := fun c hc => by
    cases c <;> first | rfl | exact absurd rfl hc
  refine ⟨fun h => (by rcases h.1 with h | h <;> exact absurd h.1 (by decide)), fun a ha he => he ?_⟩
  match a with
  | .command _ _ _ => cases ha
  | .callerStep c =>
    by_cases hc : c = .hctx
    · subst hc
      rfl
    · simp only [State.takes, packetOf, agentPacket, idle c hc]
      rfl
  | .workerStep none => rfl
  | .workerStep (some .ok) => rfl
  | .workerStep (some .exc) => rfl
  | .environment env =>
    have : ∀ e : BitVec 2, e = 0#2 ∨ e = 1#2 ∨ e = 2#2 ∨ e = 3#2 := by decide
    rcases this env with rfl | rfl | rfl | rfl
    · rfl
    · rfl
    · rfl
    · cases ha

/-- P2 step 41: a frame pushed in lifecycle Stopped stays queued. -/
theorem test_witness_FramesNeverSent :
    ((stoppingAt 3#3).present c0 = true ∧ (stoppingAt 3#3).cphase c0 = CPhase.sDrain2 ∧
      (stoppingAt 3#3).queue = [] ∧ (stoppingAt 3#3).inflight = none) ∧
    (stoppingAt 4#3).lastFrameSent ∧ ended.lastFrameSent ∧ ended.Coherent ∧ ended.lifecycle = .stopped ∧ ended.phase = Phase.exited ∧
    shows (ended.takes (.agent (.command c0 0x03#8 { r := .int 0, g := .int 255, b := .int 0 })))
      (fun t => t.queue) = some [encodeFrame prm 0#8 255#8 0#8] :=
  ⟨by decide, ⟨by decide, rfl⟩, ⟨by decide, rfl⟩, ended_coherent, rfl, rfl, rfl⟩

theorem test_witness_HandlerStopDeadlocks :
    deadlocked.handlerStopDeadlock ∧
    shows (deadlocked.takes (.agent (.callerStep .hctx))) (fun t => t.cphases) = some [(1, 3#3)] :=
  ⟨⟨rfl, rfl, by decide, by simp [deadlocked], by decide⟩, by decide⟩

/-- The same frame from its first chunk, in flight. -/
def fromFirst : State := { twoChunks with phase := 2#4, queue := [], inflight := some (frameA, 0) }

theorem test_witness_WorkerWritesWholeFrame :
    fromFirst.phase = Phase.write ∧ fromFirst.inflight = some (frameA, 0) ∧
    0 < nchunks fromFirst.maxChunk frameA ∧ nchunks fromFirst.maxChunk frameA - 0 = 2 ∧
    (∀ j, j < 2 → Answer.isOk (fromFirst.answerAt j) = true) ∧
    fromFirst.script = List.replicate 2 (.agent (.workerStep none)) ++ [.agent (.workerStep none)] := by
  decide +kernel

/-- A block about to stop, whose worker has one step left and which holds one registration. -/
def leaving : State :=
  { stoppingAt 5#3 with running := false, pendingReg := [⟨1, .press, h1⟩] }

def left : State := { leaving with phase := Phase.exited }

/-- Its run: the worker exits, the registration is published, then nothing is enabled. -/
def leavingRun (n : Nat) : State :=
  match n with
  | 0 => leaving
  | 1 => left
  | _ + 2 => publishBody left

/-- The worker and PUBLISH in turn. -/
def turns (n : Nat) : Stimulus :=
  if n % 2 = 0 then .agent (.workerStep none) else .agent (.environment 0b00#2)

theorem leavingRun_fair : FairRun leavingRun turns where
  run n := by
    match n with
    | 0 => rfl
    | 1 => rfl
    | n + 2 =>
      rcases Nat.mod_two_eq_zero_or_one n with h | h <;> simp [turns, h] <;> rfl
  publish n _ := ⟨2 * n + 1, by omega, by simp [turns, Nat.add_mod, Stimulus.isStep, AgentStep.isPublish]⟩
  worker n _ := ⟨2 * n, by omega, by simp [turns, Stimulus.isStep, AgentStep.isWorker]⟩

theorem leaving_coherent : leaving.Coherent := by
  have only : ∀ c, leaving.cphase c ≠ 0#3 → c = c0 := fun c hc => by
    match c with
    | .caller 0 => rfl
    | .host => exact absurd rfl hc
    | .hctx => exact absurd rfl hc
    | .caller (k + 1) => exact absurd (by simp [leaving, stoppingAt, State.cphase, Agent.key, phaseOf]) hc
  have at5 : leaving.cphase c0 = 5#3 := rfl
  have stopper : ∀ c, leaving.stopper c → c = c0 := fun c h => only c fun e => by
    simp [State.stopper, e] at h
  refine ⟨by constructor <;> simp [leaving, stoppingAt, base], by decide, by simp [leaving, stoppingAt],
    fun _ => rfl, ?_, ?_, fun c d hc hd => (stopper c hc).trans (stopper d hd).symm, ?_, ?_, ?_⟩
  · refine ⟨fun h => absurd h (by decide), ?_⟩
    rintro (h | ⟨c, h1, h2⟩)
    · exact absurd h (by decide)
    · have := only c fun e => by simp [e] at h1
      subst this
      exact absurd h2 (by decide)
  · exact ⟨fun _ => ⟨c0, by decide, by decide⟩, fun _ => rfl⟩
  · intro c h
    have := only c (by simp [h])
    subst this
    exact absurd h (by decide)
  · intro c h
    have := only c (by simp [h])
    subst this
    exact absurd h (by decide)
  · intro c h
    rw [only c h]
    decide

theorem test_witness_FairRunsProgress :
    FairRun leavingRun turns ∧ ⟨1, .press, h1⟩ ∈ (leavingRun 0).pendingReg ∧ (leavingRun 0).Coherent ∧
    (leavingRun 0).alive = true ∧ (leavingRun 0).phase ≠ Phase.hwait :=
  ⟨leavingRun_fair, by decide, leaving_coherent, by decide, by decide⟩

end Sys2Proof.Tests
end

section
/-! SUPPORT. Who may issue a command, and what a command does that may not be issued. -/

namespace Sys2Proof.Machine

/-! ## Presence -/

@[simp] theorem present_hctx (s : State) : s.present .hctx = s.call.isSome := rfl

@[simp] theorem present_caller (s : State) (k : Nat) :
    s.present (.caller k) = decide (k ∈ s.params.callers) := rfl

/-! ## Blocked agents -/

/-- An agent may not issue a command just when it is inside STOP or does not exist (R33, R91). -/
theorem canIssue_eq_false_iff {s : State} {c : Agent} :
    s.canIssue c = false ↔ s.cphase c ≠ CPhase.idle ∨ s.present c = false := by
  rw [State.canIssue, Bool.and_eq_false_iff, beq_eq_false_iff_ne]

/-- A command of an agent that may not issue one is no step (log 6). -/
theorem command_of_not_canIssue {s : State} {c : Agent} (h : s.canIssue c = false)
    (f : State → State) : command c f s = .next s := by
  simp [command, h]

/-- Settles O25: such an agent may not issue, and each of the commands asks for that first. -/
theorem blockedAgentIssuesNothing : Obligations.BlockedAgentIssuesNothing := by
  intro s c hblocked
  have hno : s.canIssue c = false := canIssue_eq_false_iff.mpr <| by
    obtain hstop | ⟨rfl, hcall⟩ | ⟨k, rfl, hk⟩ := hblocked
    · exact .inl hstop
    · exact .inr (by simp [hcall])
    · exact .inr (by simp [hk])
  have nothing := command_of_not_canIssue hno
  refine ⟨nothing _, nothing _, fun r g b => nothing _, fun sel h => ⟨nothing _, nothing _⟩, ?_⟩
  rintro rfl
  exact nothing _

end Sys2Proof.Machine
end

section
/-! SUPPORT. What an operation leaves as it is: one lemma for each element of the state. The cases named
in a proof are the effects that write the element; every other effect leaves it alone. -/

namespace Sys2Proof.Machine

section
variable {s t : State} {i : Instr}

/-! ## The model's carriers -/

theorem Effect.params_eq (h : Effect s i t) : t.params = s.params := by
  cases h <;> rfl

theorem Effect.script_eq (h : Effect s i t) : t.script = s.script := by
  cases h <;> rfl

theorem Effect.choices_eq (h : Effect s i t) : t.choices = s.choices := by
  cases h <;> rfl

/-! ## The shared state -/

theorem Effect.lifecycle_eq (h : Effect s i t) (hw : writesLifecycle i = false) :
    t.lifecycle = s.lifecycle := by
  cases h with
  | startSpawns | joined => cases hw
  | stopBegins _ _ hstop => obtain rfl | ⟨rfl, -⟩ := hstop <;> cases hw
  | _ => rfl

theorem Effect.running_eq (h : Effect s i t) (hw : writesRunning i = false) :
    t.running = s.running := by
  cases h with
  | startSpawns | signalled => cases hw
  | _ => rfl

theorem Effect.queue_eq (h : Effect s i t) (hw : writesQueue i = false) : t.queue = s.queue := by
  cases h with
  | colourPushed | popped | pushedOff | portPushed | portPopped => cases hw
  | _ => rfl

theorem Effect.handlers_eq (h : Effect s i t) (hw : writesHandlers i = false) :
    t.handlers = s.handlers := by
  cases h with
  | published => cases hw
  | _ => rfl

theorem Effect.pendingReg_eq (h : Effect s i t) (hw : writesPendingReg i = false) :
    t.pendingReg = s.pendingReg := by
  cases h with
  | pressRegistered | releaseRegistered | published => cases hw
  | _ => rfl

theorem Effect.illegalStart_eq (h : Effect s i t) (hw : writesIllegalStart i = false) :
    t.faults.illegalStart = s.faults.illegalStart := by
  cases h with
  | startIllegal => cases hw
  | _ => rfl

theorem Effect.queueOverflow_eq (h : Effect s i t) (hw : writesOverflow i = false) :
    t.faults.queueOverflow = s.faults.queueOverflow := by
  cases h with
  | colourPushed | pushedOff | portPushed => cases hw
  | _ => rfl

theorem Effect.badPhase_eq (h : Effect s i t) (hw : writesBadPhase i = false) :
    t.faults.badPhase = s.faults.badPhase := by
  cases h with
  | writeNoFrame | cmpNoSnapshot | updateNoSnapshot => cases hw
  | _ => rfl

theorem Effect.refused_eq (h : Effect s i t) (hw : writesRefused i = false) :
    t.refused = s.refused := by
  cases h with
  | writeRefused => cases hw
  | portRefused _ hport => obtain ⟨_, rfl⟩ | ⟨_, _, rfl⟩ | ⟨_, _, rfl⟩ := hport <;> cases hw
  | _ => rfl

/-! ## The callers' phases -/

theorem stopsFor.cphaseOwner_eq {c : Agent} (h : stopsFor i c) : cphaseOwner i = some c := by
  obtain rfl | ⟨rfl, rfl⟩ := h <;> rfl

/-- An operation leaves the list of `cphase`s as it is, or writes that of its owner (R33). -/
theorem Effect.cphases_cases (h : Effect s i t) :
    t.cphases = s.cphases ∨ ∃ d v, cphaseOwner i = some d ∧
      t.cphases = setPhaseOf s.cphases (Agent.key d) v := by
  cases h with
  | stopWaits _ d hstop => exact .inr ⟨d, CPhase.sWait, hstop.cphaseOwner_eq, rfl⟩
  | stopBegins _ d hstop => exact .inr ⟨d, CPhase.sDrain1, hstop.cphaseOwner_eq, rfl⟩
  | drained1 d => exact .inr ⟨d, CPhase.sPushoff, rfl, rfl⟩
  | pushedOff d => exact .inr ⟨d, CPhase.sDrain2, rfl, rfl⟩
  | drained2 d => exact .inr ⟨d, CPhase.sSignal, rfl, rfl⟩
  | signalled d => exact .inr ⟨d, CPhase.sJoin, rfl, rfl⟩
  | joined d | waited d => exact .inr ⟨d, CPhase.idle, rfl, rfl⟩
  | _ => exact .inl rfl

theorem Effect.cphase_eq {c : Agent} (h : Effect s i t) (hc : cphaseOwner i ≠ some c) :
    t.cphase c = s.cphase c := by
  obtain hsame | ⟨d, v, howner, hset⟩ := h.cphases_cases
  · exact cphase_congr hsame c
  · have hcd : c ≠ d := fun hcd => hc (hcd ▸ howner)
    calc t.cphase c = (s.setCphase d v).cphase c := cphase_congr hset c
      _ = s.cphase c := by simp [hcd]

/-- An operation's write of a `cphase` keeps the list canonical (log 20). -/
theorem Effect.cphases_canonical (h : Effect s i t) (hs : phasesWf 0 s.cphases = true) :
    phasesWf 0 t.cphases = true := by
  obtain hsame | ⟨d, v, -, hset⟩ := h.cphases_cases
  · rwa [hsame]
  · rw [hset]
    exact phasesWf_setPhaseOf _ _ _ hs

/-! ## The worker's own state -/

theorem Effect.phase_eq (h : Effect s i t) (hw : writesPhase i = false) : t.phase = s.phase := by
  cases h with
  | startSpawns | checked | popped | popNothing | writeLastChunk | writeFails | readSampled
  | readFails | compared | dispatchDone | dispatchInvoked | updated | slept => cases hw
  | handlerOk _ _ hret | handlerExc _ _ hret => obtain rfl | rfl := hret <;> cases hw
  | _ => rfl

theorem Effect.lastSnapshot_eq (h : Effect s i t) (hw : writesLastSnapshot i = false) :
    t.lastSnapshot = s.lastSnapshot := by
  cases h with
  | startSpawns | updated => cases hw
  | _ => rfl

theorem Effect.curSnapshot_eq (h : Effect s i t) (hw : writesCurSnapshot i = false) :
    t.curSnapshot = s.curSnapshot := by
  cases h with
  | startSpawns | readSampled | updated => cases hw
  | _ => rfl

theorem Effect.inflight_eq (h : Effect s i t) (hw : writesInflight i = false) :
    t.inflight = s.inflight := by
  cases h with
  | startSpawns | popped | writeNextChunk | writeLastChunk | writeFails => cases hw
  | _ => rfl

theorem Effect.events_eq (h : Effect s i t) (hw : writesEvents i = false) :
    t.events = s.events := by
  cases h with
  | startSpawns | compared | dispatchDropped | dispatchInvoked => cases hw
  | _ => rfl

theorem Effect.call_eq (h : Effect s i t) (hw : writesCall i = false) : t.call = s.call := by
  cases h with
  | startSpawns | dispatchInvoked => cases hw
  | handlerOk _ _ hret | handlerExc _ _ hret => obtain rfl | rfl := hret <;> cases hw
  | _ => rfl

/-! ## The logs -/

theorem Effect.busLog_append (h : Effect s i t) : ∃ more, t.busLog = s.busLog ++ more := by
  cases h with
  | startFails | startSpawns | writeNextChunk | writeLastChunk | writeFails | readSampled
  | readFails | portRead | portWrote | portWroteBlock => exact ⟨_, rfl⟩
  | _ => exact ⟨[], (List.append_nil _).symm⟩

theorem Effect.errLog_append (h : Effect s i t) : ∃ more, t.errLog = s.errLog ++ more := by
  cases h with
  | writeFails | readFails | handlerExc => exact ⟨_, rfl⟩
  | _ => exact ⟨[], (List.append_nil _).symm⟩

theorem Effect.dispatchLog_append (h : Effect s i t) :
    ∃ more, t.dispatchLog = s.dispatchLog ++ more := by
  cases h with
  | dispatchInvoked => exact ⟨_, rfl⟩
  | _ => exact ⟨[], (List.append_nil _).symm⟩

/-- An operation that logs no transaction uses up no answer of the bus environment either (R34). -/
theorem Effect.bus_eq (h : Effect s i t) (hw : writesBusLog i = false) :
    t.busLog = s.busLog ∧ t.answers = s.answers ∧ t.draws = s.draws := by
  cases h with
  | startFails | startSpawns | writeNextChunk | writeLastChunk | writeFails | readSampled
  | readFails | portRead | portWrote | portWroteBlock => cases hw
  | _ => exact ⟨rfl, rfl, rfl⟩

theorem Effect.errLog_eq (h : Effect s i t) (hw : writesErrLog i = false) :
    t.errLog = s.errLog := by
  cases h with
  | writeFails | readFails => cases hw
  | handlerExc _ _ hret => obtain rfl | rfl := hret <;> cases hw
  | _ => rfl

theorem Effect.dispatchLog_eq (h : Effect s i t) (hw : writesDispatchLog i = false) :
    t.dispatchLog = s.dispatchLog := by
  cases h with
  | dispatchInvoked => cases hw
  | _ => rfl

/-! ## Sticky bits -/

theorem Effect.illegalStart_sticky (h : Effect s i t) (hs : s.faults.illegalStart = true) :
    t.faults.illegalStart = true := by
  cases h with
  | startIllegal => rfl
  | _ => exact hs

/-- A push takes the old overflow bit in by `or` (R171). -/
theorem Effect.queueOverflow_sticky (h : Effect s i t) (hs : s.faults.queueOverflow = true) :
    t.faults.queueOverflow = true := by
  cases h with
  | colourPushed | pushedOff | portPushed => simp [hs]
  | _ => exact hs

theorem Effect.badPhase_sticky (h : Effect s i t) (hs : s.faults.badPhase = true) :
    t.faults.badPhase = true := by
  cases h with
  | writeNoFrame | cmpNoSnapshot | updateNoSnapshot => rfl
  | _ => exact hs

/-- A refusal leaves a mark that is already set as it is (log 9). -/
theorem refused_keeps_first {mark : Option RefusalName} (n : RefusalName) (h : mark ≠ none) :
    some (mark.getD n) = mark := by
  obtain ⟨m, rfl⟩ := Option.ne_none_iff_exists'.mp h
  rfl

theorem Effect.refused_sticky (h : Effect s i t) (hs : s.refused ≠ none) :
    t.refused = s.refused := by
  cases h with
  | writeRefused | portRefused => exact refused_keeps_first _ hs
  | _ => rfl

end

/-! ## The statements -/

/-- Settles O46, element by element. -/
theorem frameSharedState : Obligations.FrameSharedState := by
  intro i s t hexec
  have h := exec_effect hexec
  exact ⟨h.params_eq, h.script_eq, h.choices_eq, h.lifecycle_eq, h.running_eq, h.queue_eq,
    h.handlers_eq, h.pendingReg_eq, h.illegalStart_eq, h.queueOverflow_eq, h.badPhase_eq,
    h.refused_eq, fun _ => h.cphase_eq⟩

/-- Settles O47, element by element. -/
theorem frameWorkerState : Obligations.FrameWorkerState := by
  intro i s t hexec
  have h := exec_effect hexec
  exact ⟨h.phase_eq, h.lastSnapshot_eq, h.curSnapshot_eq, h.inflight_eq, h.events_eq, h.call_eq⟩

/-- Settles O48, log by log. -/
theorem frameLogs : Obligations.FrameLogs := by
  intro i s t hexec
  have h := exec_effect hexec
  exact ⟨h.busLog_append, h.errLog_append, h.dispatchLog_append, h.bus_eq, h.errLog_eq,
    h.dispatchLog_eq⟩

/-- Settles O49: an operation keeps what is set, and a packet that is no operation sets the bad-phase bit
or the mark and clears nothing. -/
theorem faultsAndRefusalSticky : Obligations.FaultsAndRefusalSticky := by
  intro s t hstep
  obtain ⟨i, -, h⟩ | ⟨e, bits, mark, -, rfl, hbits, hmark⟩ := step_effect hstep
  · exact ⟨h.illegalStart_sticky, h.queueOverflow_sticky, h.badPhase_sticky, h.refused_sticky⟩
  · have hfirst : s.refused ≠ none → mark = s.refused := fun hs => by
      obtain rfl | ⟨n, rfl⟩ := hmark
      · rfl
      · exact refused_keeps_first n hs
    obtain rfl | rfl := hbits
    · exact ⟨id, id, id, hfirst⟩
    · exact ⟨id, id, fun _ => rfl, hfirst⟩

/-- Settles O53: an operation writes a `cphase` by `setPhaseOf` alone, and nothing else of a step
writes one. -/
theorem stepKeepsCanonicalPhases : Obligations.StepKeepsCanonicalPhases := by
  intro s t hs hstep
  obtain ⟨i, -, h⟩ | ⟨e, bits, mark, -, rfl, -⟩ := step_effect hstep
  · exact h.cphases_canonical hs
  · exact hs

end Sys2Proof.Machine
end

section
/-! SUPPORT. Agents without a step, and agents in a phase that no rule defines (R27, R33, R92, R200). -/

namespace Sys2Proof.Machine

/-! ## Selectors that are no operation -/

theorem decode_reservedPhase {p : Phase} (c : Agent) (x : Operands) (hlo : 10 ≤ p.toNat)
    (hhi : p.toNat ≤ 14) : decode ⟨.ph p, c, x⟩ = .error .reservedPhase := by
  simp only [decode, decodeFields, decodePh]
  generalize p.toNat = n at hlo hhi
  interval_cases n <;> rfl

theorem decode_noWorkerStep {p : Phase} (c : Agent) (x : Operands)
    (hp : p = Phase.exited ∨ p = Phase.unspawned) :
    decode ⟨.ph p, c, x⟩ = .error .noWorkerStep := by
  obtain rfl | rfl := hp <;> rfl

/-- A stimulus whose packet is no operation does what its decode error says. -/
theorem takes_of_decode_error {x : Stimulus} {s : State} {e : DecodeError}
    (h : decode (packetOf x s) = .error e) : s.takes x = undecoded e s := by
  rw [State.takes, h]

/-- A caller's STOP step is selected by its `cphase` (R90). -/
theorem takes_callerStep_of_decode_error {s : State} {c : Agent} {v : CPhase} {e : DecodeError}
    (hv : s.cphase c = v) (he : decode ⟨.cph v, c, {}⟩ = .error e) :
    s.takes (.agent (.callerStep c)) = undecoded e s := by
  subst hv
  exact takes_of_decode_error he

/-! ## Reserved phases -/

theorem takes_workerStep_reserved {s : State} (ret : Option HandlerReturn)
    (hlo : 10 ≤ s.phase.toNat) (hhi : s.phase.toNat ≤ 14) :
    s.takes (.agent (.workerStep ret)) = .next s.badPhase :=
  takes_of_decode_error (x := .agent (.workerStep ret)) (decode_reservedPhase .host _ hlo hhi)

theorem takes_callerStep_reserved {s : State} {c : Agent} (h : s.cphase c = 7#3) :
    s.takes (.agent (.callerStep c)) = .next s.badPhase :=
  takes_callerStep_of_decode_error (e := .reservedCPhase) h rfl

/-- An attempt that sets `fault.bad_phase`, and does so again in the state it leaves, changes nothing
the second time (log 10). -/
theorem badPhase_attempt_repeats {s t : State} {x : Stimulus}
    (hfirst : s.takes x = .next s.badPhase)
    (hagain : s.badPhase.takes x = .next s.badPhase.badPhase)
    (ht : s.takes x = .next t) : t.takes x = .next t := by
  obtain rfl : s.badPhase = t := Host.Outcome.next.inj (hfirst.symm.trans ht)
  exact hagain

/-! ## Worker steps without what they need -/

theorem workerStep_of_phase {p : Phase} {s : State} (h : s.phase = p) (f : State → State) :
    workerStep p f s = .next (f s) := by
  simp [workerStep, h]

theorem cmpBody_of_no_snapshot {s : State} (h : s.curSnapshot = none) :
    cmpBody s = s.badPhase := by
  simp [cmpBody, h]

theorem updateBody_of_no_snapshot {s : State} (h : s.curSnapshot = none) :
    updateBody s = s.badPhase := by
  simp [updateBody, h]

theorem writeBody_of_no_frame {s : State} (h : s.inflight = none) :
    writeBody s = s.badPhase := by
  simp [writeBody, h]

/-! ## The statements -/

/-- Settles O5: the decoder names a reserved phase, and a body without what it needs is
`State.badPhase`. -/
theorem unreachableStatesSetBadPhase : Obligations.UnreachableStatesSetBadPhase := by
  intro s t
  refine ⟨fun ret hlo hhi => ?_, fun c hc => ?_, fun hnone hp => ?_, fun hnone hp => ?_,
    fun hnone hp => ?_⟩
  · have hfirst := takes_workerStep_reserved ret hlo hhi
    exact ⟨hfirst, badPhase_attempt_repeats hfirst (takes_workerStep_reserved ret hlo hhi)⟩
  · have hfirst := takes_callerStep_reserved hc
    exact ⟨hfirst, badPhase_attempt_repeats hfirst (takes_callerStep_reserved hc)⟩
  · exact (workerStep_of_phase hp cmpBody).trans (congrArg _ (cmpBody_of_no_snapshot hnone))
  · exact (workerStep_of_phase hp updateBody).trans (congrArg _ (updateBody_of_no_snapshot hnone))
  · exact (workerStep_of_phase hp writeBody).trans (congrArg _ (writeBody_of_no_frame hnone))

/-- Settles O6: each of these selectors decodes to the error that its agent has no step. -/
theorem agentsWithoutStepHold : Obligations.AgentsWithoutStepHold := by
  intro s
  refine ⟨fun ret hp => ?_, fun c hc => ?_, fun ops => ?_⟩
  · exact takes_of_decode_error (x := .agent (.workerStep ret)) (decode_noWorkerStep .host _ hp)
  · exact takes_callerStep_of_decode_error (e := .noCallerStep) hc rfl
  · exact takes_of_decode_error (e := .noQueueOp) rfl

end Sys2Proof.Machine
end

section
/-! SUPPORT. Which packets decode to which operations, and who extends the bus log (R81). -/

namespace Sys2Proof

/-! ## The selector of a decoded operation -/

/-- The selectors of the queue port and the bus port, which no agent sends on its own (R92). -/
def Selector.isPort (x : Selector) : Bool :=
  match x with
  | .qop _ => true
  | .bop _ => true
  | .cmd _ => false
  | .ph _ => false
  | .cph _ => false
  | .env _ => false

theorem decodeFields_of_decode_ok {p : Packet} {i : Instr} (h : decode p = .ok i) :
    decodeFields p = .ok i := by
  unfold decode at h
  split at h
  · cases h
  · rename_i j hj
    split at h
    · rwa [← Except.ok.inj h]
    · cases h

theorem decodeCmd_selector {op : BitVec 8} {c : Agent} {x : Operands} {i : Instr}
    (h : decodeCmd op c x = .ok i) : (encode i).sel = .cmd op := by
  unfold decodeCmd at h
  split at h
  case h_6 hop =>
    split at h
    · cases h
      exact congrArg Selector.cmd (BitVec.eq_of_toNat_eq hop.symm)
    · cases h
  case h_7 => cases h
  all_goals
    cases h
    exact congrArg Selector.cmd (BitVec.eq_of_toNat_eq (Eq.symm ‹op.toNat = _›))

theorem decodePh_selector {phase : BitVec 4} {x : Operands} {i : Instr}
    (h : decodePh phase x = .ok i) : (encode i).sel = .ph phase := by
  unfold decodePh at h
  split at h <;> cases h <;>
    exact congrArg Selector.ph (BitVec.eq_of_toNat_eq (Eq.symm ‹phase.toNat = _›))

theorem decodeCph_selector {cphase : BitVec 3} {c : Agent} {i : Instr}
    (h : decodeCph cphase c = .ok i) : (encode i).sel = .cph cphase := by
  unfold decodeCph at h
  split at h <;> cases h <;>
    exact congrArg Selector.cph (BitVec.eq_of_toNat_eq (Eq.symm ‹cphase.toNat = _›))

theorem decodeQop_selector {qop : BitVec 2} {x : Operands} {i : Instr}
    (h : decodeQop qop x = .ok i) : (encode i).sel = .qop qop := by
  unfold decodeQop at h
  split at h <;> cases h <;>
    exact congrArg Selector.qop (BitVec.eq_of_toNat_eq (Eq.symm ‹qop.toNat = _›))

theorem decodeBop_selector {bop : BitVec 2} {x : Operands} {i : Instr}
    (h : decodeBop bop x = .ok i) : (encode i).sel = .bop bop := by
  unfold decodeBop at h
  split at h <;> cases h <;>
    exact congrArg Selector.bop (BitVec.eq_of_toNat_eq (Eq.symm ‹bop.toNat = _›))

theorem decodeEnv_selector {env : BitVec 2} {i : Instr}
    (h : decodeEnv env = .ok i) : (encode i).sel = .env env := by
  unfold decodeEnv at h
  split at h <;> cases h <;>
    exact congrArg Selector.env (BitVec.eq_of_toNat_eq (Eq.symm ‹env.toNat = _›))

/-- A packet decodes only to an operation whose own selector it carries. -/
theorem decode_selector {p : Packet} {i : Instr} (h : decode p = .ok i) : (encode i).sel = p.sel := by
  obtain ⟨sel, c, x⟩ := p
  have h := decodeFields_of_decode_ok h
  cases sel with
  | cmd op => exact decodeCmd_selector h
  | ph phase => exact decodePh_selector h
  | cph cphase => exact decodeCph_selector h
  | qop qop => exact decodeQop_selector h
  | bop bop => exact decodeBop_selector h
  | env env => exact decodeEnv_selector h

namespace Machine

section
variable {s t : State} {i : Instr} {a : AgentStep}

/-- An agent's packet never carries a port's selector. -/
theorem agentPacket_not_port (h : decode (agentPacket a s) = .ok i) :
    (encode i).sel.isPort = false := by
  rw [decode_selector h]
  cases a <;> rfl

/-- The CMD value 0x01 comes from an agent that sends it (R91). -/
theorem command_of_decode_start {c : Agent} (h : decode (agentPacket a s) = .ok (.start c)) :
    ∃ d ops, a = .command d 0x01#8 ops := by
  have hsel := decode_selector h
  cases a with
  | command d op ops => exact ⟨d, ops, by cases hsel; rfl⟩
  | callerStep | workerStep | environment => cases hsel

/-- A PH selector is the phase of a worker that takes the step (R93). -/
theorem workerStep_of_decode_ph {p : Phase} (h : decode (agentPacket a s) = .ok i)
    (hi : (encode i).sel = .ph p) : (∃ ret, a = .workerStep ret) ∧ s.phase = p := by
  have hsel := decode_selector h
  cases a with
  | workerStep ret =>
    have hp : Selector.ph p = .ph s.phase := hi.symm.trans hsel
    exact ⟨⟨ret, rfl⟩, (Selector.ph.inj hp).symm⟩
  | command | callerStep | environment => exact absurd (hi.symm.trans hsel) nofun

/-! ## What moves the phase -/

/-- Only a live worker's phase moves, but for the spawn, which gives the worker its first one (R27,
R261). -/
theorem Effect.phase_cases (h : Effect s i t) :
    t.phase = s.phase ∨ s.alive = true ∨
      (s.lifecycle = .uninitialized ∧ t.lifecycle = .running) := by
  cases h with
  | startSpawns _ _ _ _ _ hl => exact .inr (.inr ⟨hl, rfl⟩)
  | checked hp | popped _ _ hp | popNothing hp | writeLastChunk _ _ hp | writeFails _ _ hp
  | readSampled _ hp | readFails hp | compared _ hp | dispatchDone hp | dispatchInvoked _ _ _ hp
  | handlerOk _ _ _ hp | handlerExc _ _ _ hp | updated _ hp | slept hp =>
    exact .inr (.inl (by simp [State.alive, hp]))
  | _ => exact .inl rfl

/-- No operation goes back to the state before START (R21). -/
theorem Effect.lifecycle_of_uninitialized (h : Effect s i t) (ht : t.lifecycle = .uninitialized) :
    s.lifecycle = .uninitialized := by
  cases h with
  | startSpawns | stopBegins | joined => cases ht
  | _ => exact ht

/-- A worker that has exited stays so, in a block that has been started. -/
theorem Effect.exited_stays (h : Effect s i t) (hl : s.lifecycle ≠ .uninitialized)
    (hp : s.phase = Phase.exited) : t.phase = Phase.exited := by
  obtain hsame | halive | ⟨huninit, -⟩ := h.phase_cases
  · exact hsame.trans hp
  · simp [State.alive, hp] at halive
  · exact absurd huninit hl

/-! ## Who extends the bus log -/

/-- A START that makes a transaction is the first (R261, R262). -/
theorem Effect.start_busLog {c : Agent} (h : Effect s (.start c) t) (hbus : t.busLog ≠ s.busLog) :
    s.lifecycle = .uninitialized := by
  cases h with
  | startFails _ _ _ _ _ _ hl | startSpawns _ _ _ _ _ hl => exact hl
  | _ => exact absurd rfl hbus

/-- Of an agent's operations, START, WRITE and READ alone may log a transaction (R34, R81). -/
theorem bus_writer_cases (hi : writesBusLog i = true) (hport : (encode i).sel.isPort = false) :
    (∃ c, i = .start c) ∨ i = .write ∨ i = .read := by
  cases i with
  | start c => exact .inl ⟨c, rfl⟩
  | write => exact .inr (.inl rfl)
  | read => exact .inr (.inr rfl)
  | readRegister | writeRegister | writeBlock => cases hport
  | _ => cases hi

/-- An agent that makes a transaction is the live worker, or starts a block that has no worker yet. -/
theorem Effect.bus_owner (h : Effect s i t) (hd : decode (agentPacket a s) = .ok i)
    (hs : s.Coherent) (hbus : t.busLog ≠ s.busLog) :
    ((∃ ret, a = .workerStep ret) ∧ s.alive = true) ∨
      ∃ c ops, a = .command c 0x01#8 ops ∧ s.phase = Phase.unspawned := by
  have hi : writesBusLog i = true := by
    by_contra hno
    exact hbus (h.bus_eq (Bool.eq_false_iff.mpr hno)).1
  obtain ⟨c, rfl⟩ | rfl | rfl := bus_writer_cases hi (agentPacket_not_port hd)
  · obtain ⟨d, ops, ha⟩ := command_of_decode_start hd
    exact .inr ⟨d, ops, ha, hs.lifecycle.unspawned_iff.mpr (h.start_busLog hbus)⟩
  · obtain ⟨ha, hp⟩ := workerStep_of_decode_ph hd rfl
    exact .inl ⟨ha, by simp [State.alive, hp]⟩
  · obtain ⟨ha, hp⟩ := workerStep_of_decode_ph hd rfl
    exact .inl ⟨ha, by simp [State.alive, hp]⟩

end

/-- Settles O55: an exited worker is neither alive nor unspawned, so the owners of the bus are gone. -/
theorem busOwnership : Obligations.BusOwnership := by
  intro s t a hs htakes
  obtain ⟨i, hd, h⟩ | ⟨bits, mark, rfl⟩ := takes_effect htakes
  · have howner := h.bus_owner hd hs
    refine ⟨howner, fun hp => ⟨?_, h.exited_stays (fun huninit => ?_) hp⟩⟩
    · by_contra hbus
      obtain ⟨-, halive⟩ | ⟨-, -, -, hun⟩ := howner hbus
      · simp [State.alive, hp] at halive
      · simp [hp] at hun
    · have hun := hs.lifecycle.unspawned_iff.mpr huninit
      simp [hp] at hun
  · exact ⟨fun hbus => absurd rfl hbus, fun hp => ⟨rfl, hp⟩⟩

end Machine

end Sys2Proof
end

section
/-! SUPPORT. What a run sends: the frames it pops, cut into pieces on the wire (R71). -/

namespace Sys2Proof.Machine

/-! ## Logs taken apart -/

@[simp] theorem blockWrites_append (l m : List BusRecord) :
    blockWrites (l ++ m) = blockWrites l ++ blockWrites m := List.filter_append l m

@[simp] theorem blockWrites_read (dev : Nat) (reg : Byte) (a : Answer) :
    blockWrites [.read dev reg a] = [] := rfl

@[simp] theorem blockWrites_block (dev : Nat) (reg : Byte) (bytes : List Byte) (ok : Bool) :
    blockWrites [.block dev reg bytes ok] = [.block dev reg bytes ok] := rfl

/-- START's configuration writes are no block writes (R260). -/
theorem blockWrites_of_writes {dev : Nat} {l : List BusRecord}
    (h : ∀ r ∈ l, ∃ reg v ok, r = .write dev reg v ok) : blockWrites l = [] := by
  refine List.filter_eq_nil_iff.mpr fun r hr => ?_
  obtain ⟨reg, v, ok, rfl⟩ := h r hr
  exact Bool.false_ne_true

@[simp] theorem writeFailures_append (l m : List ErrRecord) :
    writeFailures (l ++ m) = writeFailures l + writeFailures m := by
  simp [writeFailures]

@[simp] theorem writeFailures_read (reg : Byte) (k : Nat) :
    writeFailures [busIOFailure .read reg k] = 0 := rfl

@[simp] theorem writeFailures_handler (e : Event) : writeFailures [handlerException e] = 0 := rfl

@[simp] theorem wire_append (l m : List BusRecord) : wire (l ++ m) = wire l ++ wire m :=
  List.flatMap_append

/-- The wire carries what the block writes put there, and nothing else. -/
theorem wire_blockWrites (log : List BusRecord) : wire (blockWrites log) = wire log := by
  induction log with
  | nil => rfl
  | cons r rest ih =>
    cases r with
    | read | write => exact ih
    | block dev reg bytes ok => exact congrArg (blockBytes (.block dev reg bytes ok) ++ ·) ih

/-! ## Chunks of a frame -/

theorem frameWrites_zero (dev c : Nat) (f : Frame) : frameWrites dev c f 0 false = [] := rfl

theorem frameWrites_succ (dev c : Nat) (f : Frame) (k : Nat) :
    frameWrites dev c f (k + 1) false =
      frameWrites dev c f k false ++ [.block dev regOutput (chunk c f k) true] := by
  simp [frameWrites, List.range_succ]

theorem frameWrites_failed (dev c : Nat) (f : Frame) (k : Nat) :
    frameWrites dev c f k true =
      frameWrites dev c f k false ++ [.block dev regOutput (chunk c f k) false] := by
  simp [frameWrites]

/-- The first chunks of a frame, one after the other, are a beginning of it (R125). -/
theorem wire_frameWrites_ok (dev c : Nat) (f : Frame) (k : Nat) :
    wire (frameWrites dev c f k false) = f.take (k * c) := by
  induction k with
  | zero => simp [frameWrites_zero, wire]
  | succ k ih =>
    rw [frameWrites_succ, wire_append, ih, Nat.succ_mul, List.take_add]
    simp [wire, blockBytes, chunk]

/-- A failed chunk puts nothing on the wire. -/
theorem wire_frameWrites (dev c : Nat) (f : Frame) (k : Nat) (failed : Bool) :
    wire (frameWrites dev c f k failed) = f.take (k * c) := by
  cases failed with
  | false => exact wire_frameWrites_ok dev c f k
  | true =>
    rw [frameWrites_failed, wire_append, wire_frameWrites_ok]
    exact List.append_nil _

/-- All chunks of a frame are the frame (R125). -/
theorem take_nchunks (s : State) (f : Frame) :
    f.take (nchunks s.maxChunk f * s.maxChunk) = f := by
  refine List.take_of_length_le ?_
  have hpos : 0 < s.maxChunk := Nat.succ_pos _
  have hdiv := Nat.div_add_mod (f.length + s.maxChunk - 1) s.maxChunk
  have hmod := Nat.mod_lt (f.length + s.maxChunk - 1) hpos
  rw [nchunks, Nat.mul_comm]
  omega

/-- A chunk the bus port takes has a byte, so its index is one of the frame's (R122, R125). -/
theorem lt_nchunks_of_blockOk {s : State} {f : Frame} {k : Nat}
    (h : blockOk s regOutput (chunk s.maxChunk f k) = true) : k < nchunks s.maxChunk f := by
  simp only [blockOk, chunk, Bool.and_eq_true, decide_eq_true_eq, List.length_take,
    List.length_drop] at h
  have hbyte : k * s.maxChunk < f.length := by omega
  have hpos : 0 < s.maxChunk := Nat.succ_pos _
  refine (Nat.le_div_iff_mul_le hpos).mpr ?_
  rw [Nat.succ_mul]
  omega

/-! ## Pieces -/

/-- A frame taken off the queue, how many of its chunks were answered `ok`, and whether its next one was
then answered `fail` (R71). -/
abbrev Piece := Frame × Nat × Bool

/-- A piece is complete in chunks of `c` bytes: cut at a failed chunk of the frame, or the whole frame. -/
def Piece.Ended (c : Nat) (x : Piece) : Prop :=
  if x.2.2 then x.2.1 < nchunks c x.1 else x.2.1 = nchunks c x.1

/-- What WRITE logs for some pieces, with a state's parameters. -/
def State.pieceWrites (s : State) (ps : List Piece) : List BusRecord :=
  ps.flatMap fun x => frameWrites s.params.deviceAddr s.maxChunk x.1 x.2.1 x.2.2

/-- How many pieces end in a failed chunk. -/
def failedPieces (ps : List Piece) : Nat := (ps.filter fun x => x.2.2).length

/-- The piece being sent, if any: its frame is in flight (R30). -/
def State.openPiece (s : State) : List Piece :=
  match s.inflight with
  | none => []
  | some (f, k) => [(f, k, false)]

section
variable {s t u : State}

theorem openPiece_of_none (h : s.inflight = none) : s.openPiece = [] := by
  simp [State.openPiece, h]

theorem openPiece_of_some {f : Frame} {k : Nat} (h : s.inflight = some (f, k)) :
    s.openPiece = [(f, k, false)] := by
  simp [State.openPiece, h]

theorem inflight_of_mem_openPiece {f : Frame} {k : Nat} {failed : Bool}
    (h : (f, k, failed) ∈ s.openPiece) : failed = false ∧ s.inflight = some (f, k) := by
  unfold State.openPiece at h
  split at h
  · cases h
  · rename_i g j hj
    obtain ⟨rfl, rfl, rfl⟩ : f = g ∧ k = j ∧ failed = false := by simpa using h
    exact ⟨rfl, hj⟩

@[simp] theorem failedPieces_append (ps qs : List Piece) :
    failedPieces (ps ++ qs) = failedPieces ps + failedPieces qs := by
  simp [failedPieces]

@[simp] theorem pieceWrites_append (ps qs : List Piece) :
    s.pieceWrites (ps ++ qs) = s.pieceWrites ps ++ s.pieceWrites qs := List.flatMap_append

theorem pieceWrites_congr (h : u.params = s.params) (ps : List Piece) :
    u.pieceWrites ps = s.pieceWrites ps := by
  simp [State.pieceWrites, State.maxChunk, h]

/-! ## Sending -/

/-- From `s` to `t` the worker took the frames `fs` off the queue and brought the pieces `ended` to their
ends: the piece open in `s` with the frames taken gives the ended pieces with the one open in `t`, and
so do the block writes. -/
structure Sends (s t : State) (fs : List Frame) (ended : List Piece) : Prop where
  params : t.params = s.params
  frames : s.openPiece.map Prod.fst ++ fs = (ended ++ t.openPiece).map Prod.fst
  complete : ∀ x ∈ ended, Piece.Ended s.maxChunk x
  writes : ∃ new, blockWrites t.busLog = blockWrites s.busLog ++ new ∧
    s.pieceWrites s.openPiece ++ new = s.pieceWrites (ended ++ t.openPiece)
  failures : writeFailures t.errLog = writeFailures s.errLog + failedPieces ended

/-- Where nothing is taken and no block is written, nothing is sent. -/
theorem Sends.of_quiet (hparams : t.params = s.params) (hin : t.inflight = s.inflight)
    (hbus : blockWrites t.busLog = blockWrites s.busLog)
    (herr : writeFailures t.errLog = writeFailures s.errLog) : Sends s t [] [] := by
  have hopen : t.openPiece = s.openPiece := by simp [State.openPiece, hin]
  exact ⟨hparams, by simp [hopen], nofun, ⟨[], by simp [hbus], by simp [hopen]⟩, herr⟩

theorem Sends.trans {fs gs : List Frame} {ps qs : List Piece} (h : Sends s u fs ps)
    (k : Sends u t gs qs) : Sends s t (fs ++ gs) (ps ++ qs) where
  params := k.params.trans h.params
  frames := by
    have hf := h.frames
    have kf := k.frames
    simp only [List.map_append] at hf kf ⊢
    rw [← List.append_assoc, hf, List.append_assoc, kf, List.append_assoc]
  complete x hx := by
    have hchunk : u.maxChunk = s.maxChunk := congrArg (·.chunkExtra + 1) h.params
    obtain hx | hx := List.mem_append.mp hx
    · exact h.complete x hx
    · exact hchunk ▸ k.complete x hx
  writes := by
    obtain ⟨hnew, hlog, hpieces⟩ := h.writes
    obtain ⟨knew, klog, kpieces⟩ := k.writes
    simp only [pieceWrites_congr h.params, pieceWrites_append] at hpieces kpieces
    refine ⟨hnew ++ knew, by rw [klog, hlog, List.append_assoc], ?_⟩
    simp only [pieceWrites_append]
    rw [← List.append_assoc, hpieces, List.append_assoc, kpieces, List.append_assoc]
  failures := by rw [k.failures, h.failures, failedPieces_append, Nat.add_assoc]

/-! ## When a frame is in flight -/

/-- What a coherent state says of the frame in flight: it is there only in WRITE, and a block that has
not been started has no worker (R21, R30). -/
structure State.WritesInWrite (s : State) : Prop where
  inflight_phase : s.inflight ≠ none → s.phase = Phase.write
  unspawned : s.lifecycle = .uninitialized → s.phase = Phase.unspawned

theorem State.Coherent.writesInWrite (h : s.Coherent) : s.WritesInWrite where
  inflight_phase hin := h.worker.inflight_iff.mp (Option.isSome_iff_ne_none.mpr hin)
  unspawned := h.lifecycle.unspawned_iff.mpr

theorem State.WritesInWrite.inflight_none {p : Phase} (h : s.WritesInWrite) (hp : s.phase = p)
    (hne : p ≠ Phase.write) : s.inflight = none := by
  by_contra hin
  exact hne (hp.symm.trans (h.inflight_phase hin))

variable {i : Instr}

theorem Effect.keeps_inflight_phase (h : Effect s i t) (hs : s.WritesInWrite)
    (hin : t.inflight ≠ none) : t.phase = Phase.write := by
  cases h with
  | startSpawns | writeLastChunk | writeFails => exact absurd rfl hin
  | popped => rfl
  | writeNextChunk _ _ hp => exact hp
  | checked hp | popNothing hp | readSampled _ hp | readFails hp | compared _ hp | dispatchDone hp
  | dispatchInvoked _ _ _ hp | handlerOk _ _ _ hp | handlerExc _ _ _ hp | updated _ hp | slept hp =>
    exact absurd (hs.inflight_none hp (by decide)) hin
  | _ => exact hs.inflight_phase hin

theorem Effect.keeps_writesInWrite (h : Effect s i t) (hs : s.WritesInWrite) :
    t.WritesInWrite where
  inflight_phase := h.keeps_inflight_phase hs
  unspawned ht := by
    have hun := hs.unspawned (h.lifecycle_of_uninitialized ht)
    obtain hsame | halive | ⟨-, hrunning⟩ := h.phase_cases
    · exact hsame.trans hun
    · simp [State.alive, hun] at halive
    · exact absurd (hrunning.symm.trans ht) nofun

/-! ## One operation -/

/-- An agent's operation other than POP and WRITE sends nothing. -/
theorem Effect.sends_nothing (h : Effect s i t) (hs : s.WritesInWrite)
    (hport : (encode i).sel.isPort = false) (hpop : i ≠ .pop) (hwrite : i ≠ .write) :
    Sends s t [] [] := by
  cases h with
  | popped | popNothing => exact absurd rfl hpop
  | writeNoFrame | writeRefused | writeNextChunk | writeLastChunk | writeFails =>
    exact absurd rfl hwrite
  | portPopped | portRead | portWrote | portWroteBlock => cases hport
  | startFails _ _ _ _ _ _ _ hr =>
    exact .of_quiet rfl rfl (by simp [blockWrites_of_writes hr]) rfl
  | startSpawns _ _ _ _ _ hl hr =>
    have hnone := hs.inflight_none (hs.unspawned hl) (by decide)
    exact .of_quiet rfl hnone.symm (by simp [blockWrites_of_writes hr]) rfl
  | readSampled => exact .of_quiet rfl rfl (by simp) rfl
  | readFails => exact .of_quiet rfl rfl (by simp) (by simp)
  | handlerExc => exact .of_quiet rfl rfl rfl (by simp)
  | _ => exact .of_quiet rfl rfl rfl rfl

/-- POP leaves in the queue what it does not take (R191, R331). -/
theorem execPop_queue (h : execPop s = .next t) : poppedBy .pop s ++ t.queue = s.queue := by
  obtain ⟨hp, rfl⟩ | ⟨hp, rfl⟩ := workerStep_next h
  · unfold popBody State.popped
    cases hd : s.pastFinalDrain with
    | true => simp [poppedBy, hd]
    | false => cases hq : s.queue <;> simp [poppedBy, hp, hd, hq]
  · simp [poppedBy, hp]

/-- POP takes the oldest frame into flight, or none (R191). -/
theorem execPop_sends (h : execPop s = .next t) (hs : s.WritesInWrite) :
    Sends s t (poppedBy .pop s) [] := by
  have hqueue := execPop_queue h
  cases pop_effect h with
  | popped f q hp hq hd =>
    have hfs : poppedBy .pop s = [f] := by simp [poppedBy, hp, hq, hd]
    have hopen := openPiece_of_none (hs.inflight_none hp (by decide))
    rw [hfs]
    refine ⟨rfl, ?_, nofun, ⟨[], (List.append_nil _).symm, ?_⟩, rfl⟩
    · rw [hopen, openPiece_of_some rfl]
      rfl
    · rw [hopen, openPiece_of_some rfl]
      rfl
  | handlerExc _ _ hret => obtain h | h := hret <;> cases h
  | _ =>
    rw [List.append_left_eq_self.mp hqueue]
    exact .of_quiet rfl rfl rfl rfl

/-- WRITE sends one chunk of the frame in flight, and ends its piece with the last or a failed one
(R192). -/
theorem Effect.write_sends (h : Effect s .write t) : ∃ ended, Sends s t [] ended := by
  cases h with
  | writeNextChunk f k _ hi =>
    refine ⟨[], rfl, ?_, nofun, ⟨_, blockWrites_append _ _, ?_⟩, rfl⟩
    · rw [openPiece_of_some hi, openPiece_of_some rfl]
      rfl
    · rw [openPiece_of_some hi, openPiece_of_some rfl]
      simp [State.pieceWrites, frameWrites_succ]
  | writeLastChunk f k _ hi hb _ hk =>
    have hlast : k + 1 = nchunks s.maxChunk f := by
      have := lt_nchunks_of_blockOk hb
      omega
    refine ⟨[(f, k + 1, false)], rfl, ?_, by simp [Piece.Ended, hlast],
      ⟨_, blockWrites_append _ _, ?_⟩, rfl⟩
    · rw [openPiece_of_some hi, openPiece_of_none rfl]
      rfl
    · rw [openPiece_of_some hi, openPiece_of_none rfl]
      simp [State.pieceWrites, frameWrites_succ]
  | writeFails f k _ hi hb =>
    refine ⟨[(f, k, true)], rfl, ?_, by simp [Piece.Ended, lt_nchunks_of_blockOk hb],
      ⟨_, blockWrites_append _ _, ?_⟩, writeFailures_append _ _⟩
    · rw [openPiece_of_some hi, openPiece_of_none rfl]
      rfl
    · rw [openPiece_of_some hi, openPiece_of_none rfl]
      simp [State.pieceWrites, frameWrites_failed]
  | handlerExc _ _ hret => obtain h | h := hret <;> cases h
  | _ => exact ⟨[], .of_quiet rfl rfl rfl rfl⟩

theorem poppedBy_eq_nil (hport : (encode i).sel.isPort = false) (hpop : i ≠ .pop) :
    poppedBy i s = [] := by
  cases i with
  | pop => exact absurd rfl hpop
  | tryPop => cases hport
  | _ => rfl

theorem exec_sends (h : exec i s = .next t) (hs : s.WritesInWrite)
    (hport : (encode i).sel.isPort = false) : ∃ ended, Sends s t (poppedBy i s) ended := by
  by_cases hpop : i = .pop
  · subst hpop
    exact ⟨[], execPop_sends h hs⟩
  · rw [poppedBy_eq_nil hport hpop]
    by_cases hwrite : i = .write
    · subst hwrite
      exact (exec_effect h).write_sends
    · exact ⟨[], (exec_effect h).sends_nothing hs hport hpop hwrite⟩

/-! ## Runs of the agents -/

theorem State.agentsOnly.nextStimulus_agent (h : s.agentsOnly) :
    ∃ a, s.nextStimulus = .agent a := by
  unfold State.nextStimulus
  cases hscript : s.script with
  | nil => exact ⟨_, rfl⟩
  | cons x rest =>
    have hx := h x (by simp [hscript])
    cases x with
    | agent a => exact ⟨a, rfl⟩
    | queuePort | busPort => cases hx

theorem State.agentsOnly.fetch_not_port (h : s.agentsOnly) (hd : decode s.fetch = .ok i) :
    (encode i).sel.isPort = false := by
  obtain ⟨a, ha⟩ := h.nextStimulus_agent
  exact agentPacket_not_port (a := a) (s := s) (by rwa [State.fetch, ha] at hd)

/-- A step takes one stimulus off the script and puts none there. -/
theorem step_script (h : step s = .next t) : t.script = s.script.tail := by
  obtain ⟨i, -, he⟩ | ⟨_, _, _, -, rfl, -⟩ := step_effect h
  · exact he.script_eq
  · rfl

theorem State.agentsOnly.step (hs : s.agentsOnly) (h : step s = .next t) : t.agentsOnly := by
  intro x hx
  rw [step_script h] at hx
  exact hs x (List.mem_of_mem_tail hx)

theorem advance_writesInWrite (h : s.WritesInWrite) : s.advance.WritesInWrite :=
  ⟨h.inflight_phase, h.unspawned⟩

theorem step_keeps_writesInWrite (h : step s = .next t) (hs : s.WritesInWrite) :
    t.WritesInWrite := by
  obtain ⟨i, -, he⟩ | ⟨_, _, _, -, rfl, -⟩ := step_effect h
  · exact he.keeps_writesInWrite (advance_writesInWrite hs)
  · exact ⟨hs.inflight_phase, hs.unspawned⟩

theorem exec_of_step {i : Instr} (h : step s = .next t) (hd : decode s.fetch = .ok i) :
    exec i s.advance = .next t := by
  simpa [step, hd] using h

/-- A run pops what its first step pops, and then what the rest of it does. -/
theorem poppedIn_succ (h : step s = .next u) (n : Nat) :
    poppedIn (n + 1) s = poppedIn 1 s ++ poppedIn n u := by
  cases hd : decode s.fetch <;> simp [poppedIn, hd, h]

theorem step_sends (h : step s = .next t) (hs : s.WritesInWrite) (hagents : s.agentsOnly) :
    ∃ ended, Sends s t (poppedIn 1 s) ended := by
  obtain ⟨i, hd, -⟩ | ⟨e, _, _, hd, rfl, -⟩ := step_effect h
  · have hfs : poppedIn 1 s = poppedBy i s.advance := by simp [poppedIn, hd, h]
    obtain ⟨ended, hsends⟩ := exec_sends (exec_of_step h hd) (advance_writesInWrite hs)
      (hagents.fetch_not_port hd)
    have hadvance : Sends s s.advance [] [] := .of_quiet rfl rfl rfl rfl
    exact ⟨ended, hfs ▸ hadvance.trans hsends⟩
  · have hfs : poppedIn 1 s = [] := by simp [poppedIn, hd, h]
    exact ⟨[], hfs ▸ .of_quiet rfl rfl rfl rfl⟩

theorem run_sends (n : Nat) (h : Host.Core.run Sys2Proof.core n s = .next t)
    (hs : s.WritesInWrite) (hagents : s.agentsOnly) :
    ∃ ended, Sends s t (poppedIn n s) ended := by
  induction n generalizing s with
  | zero =>
    obtain rfl : s = t := Host.Outcome.next.inj h
    exact ⟨[], .of_quiet rfl rfl rfl rfl⟩
  | succ n ih =>
    obtain ⟨u, hstep, hrun⟩ := run_inv h
    obtain ⟨ps, hfirst⟩ := step_sends hstep hs hagents
    obtain ⟨qs, hrest⟩ := ih hrun (step_keeps_writesInWrite hstep hs) (hagents.step hstep)
    rw [poppedIn_succ hstep]
    exact ⟨ps ++ qs, hfirst.trans hrest⟩

/-! ## The wire of a run -/

theorem wire_pieceWrites (s : State) (ps : List Piece) :
    wire (s.pieceWrites ps) = ps.flatMap fun x => x.1.take (x.2.1 * s.maxChunk) := by
  induction ps with
  | nil => rfl
  | cons x rest ih =>
    have hx := wire_frameWrites s.params.deviceAddr s.maxChunk x.1 x.2.1 x.2.2
    simpa [State.pieceWrites, hx] using ih

/-- The pieces of a run that starts with none open are those of the frames popped. -/
theorem Sends.frames_eq {fs : List Frame} {ended : List Piece} (h : Sends s t fs ended)
    (hnone : s.inflight = none) : fs = (ended ++ t.openPiece).map Prod.fst := by
  simpa [openPiece_of_none hnone] using h.frames

/-- Its block writes are those of its pieces. -/
theorem Sends.blockWrites_eq {fs : List Frame} {ended : List Piece} (h : Sends s t fs ended)
    (hnone : s.inflight = none) :
    blockWrites t.busLog = blockWrites s.busLog ++ s.pieceWrites (ended ++ t.openPiece) := by
  obtain ⟨new, hlog, hpieces⟩ := h.writes
  rw [hlog, ← hpieces, openPiece_of_none hnone]
  rfl

/-- Its piece at one position is ended, or it is the last and its frame still in flight. -/
theorem Sends.piece_cases {fs : List Frame} {ended : List Piece} (h : Sends s t fs ended)
    {j : Nat} {f : Frame} {k : Nat} {failed : Bool}
    (hj : (ended ++ t.openPiece)[j]? = some (f, k, failed)) :
    Piece.Ended s.maxChunk (f, k, failed) ∨
      (failed = false ∧ j + 1 = (ended ++ t.openPiece).length ∧ t.inflight = some (f, k)) := by
  by_cases hlt : j < ended.length
  · rw [List.getElem?_append_left hlt] at hj
    exact .inl (h.complete _ (List.mem_of_getElem? hj))
  · rw [List.getElem?_append_right (Nat.le_of_not_lt hlt)] at hj
    obtain ⟨hok, hin⟩ := inflight_of_mem_openPiece (List.mem_of_getElem? hj)
    obtain ⟨hindex, -⟩ := List.getElem?_eq_some_iff.mp hj
    rw [openPiece_of_some hin] at hindex ⊢
    refine .inr ⟨hok, ?_, hin⟩
    simp only [List.length_append, List.length_singleton] at hindex ⊢
    omega

theorem zip_map_fst_snd (ps : List Piece) : (ps.map Prod.fst).zip (ps.map Prod.snd) = ps := by
  simpa only [List.unzip_eq_map] using List.zip_unzip ps

theorem failedPieces_openPiece : failedPieces t.openPiece = 0 := by
  unfold State.openPiece
  split <;> rfl

theorem failedPieces_eq (ps : List Piece) :
    ((ps.map Prod.snd).filter fun e => e.2).length = failedPieces ps := by
  simp [failedPieces, List.filter_map, Function.comp_def]

end

/-- Settles O57: the pieces of the run are the popped frames with their ends. -/
theorem noInterleavingOnWire : Obligations.NoInterleavingOnWire := by
  intro n s t hs hagents hnone hrun
  obtain ⟨ended, h⟩ := run_sends n hrun hs.writesInWrite hagents
  have hwrites := h.blockWrites_eq hnone
  rw [h.frames_eq hnone]
  refine ⟨(ended ++ t.openPiece).map Prod.snd, by simp only [List.length_map], ?_, ?_, ?_, ?_⟩
  · rw [zip_map_fst_snd]
    exact hwrites
  · rw [zip_map_fst_snd, ← wire_pieceWrites, ← wire_blockWrites t.busLog, hwrites, wire_append,
      wire_blockWrites]
  · intro j f k failed hf hend
    rw [List.length_map]
    have hj : (ended ++ t.openPiece)[j]? = some (f, k, failed) := by
      rw [← zip_map_fst_snd (ended ++ t.openPiece)]
      exact List.getElem?_zip_eq_some.mpr ⟨hf, hend⟩
    obtain hcut | ⟨rfl, hlast⟩ := h.piece_cases hj
    · cases failed with
      | true => exact ⟨fun _ => hcut, nofun⟩
      | false =>
        have hwhole : k = nchunks s.maxChunk f := hcut
        exact ⟨nofun, fun _ => .inl ⟨hwhole, hwhole ▸ take_nchunks s f⟩⟩
    · exact ⟨nofun, fun _ => .inr hlast⟩
  · rw [failedPieces_eq, failedPieces_append, failedPieces_openPiece]
    exact h.failures

end Sys2Proof.Machine
end

section
/-! SUPPORT. The decoder on the selectors of the tables and outside them (spec/30_encoding.md R90-R93, R100),
the step that runs what it reads, and the button mask of a selector (R99). -/

namespace Sys2Proof

/-! ## Well-formedness -/

theorem Frame.ok_iff {f : Frame} : f.ok = true ↔ f.length = 128 := by
  rw [Frame.ok, beq_iff_eq]

theorem Agent.isCaller_iff {c : Agent} : c.isCaller = true ↔ c ≠ .host := by
  rw [Agent.isCaller, bne_iff_ne]

/-! ## The table lookup and the checks -/

section
variable {p : Packet} {i : Instr}

/-- What the decoder does with the row the tables give: only the checks decide. -/
theorem decode_of_row (h : decodeFields p = .ok i) :
    decode p = if i.wellFormed then .ok i else .error (illFormedError i) := by
  rw [decode, h]

theorem decode_of_no_row {e : DecodeError} (h : decodeFields p = .error e) :
    decode p = .error e := by
  rw [decode, h]

/-- A packet decodes to an operation just when the tables give it and it passes the checks. -/
theorem decode_eq_ok_iff : decode p = .ok i ↔ decodeFields p = .ok i ∧ i.wellFormed = true := by
  constructor
  · intro h
    have hrow := decodeFields_of_decode_ok h
    refine ⟨hrow, ?_⟩
    by_contra hbad
    rw [decode_of_row hrow, if_neg hbad] at h
    cases h
  · rintro ⟨hrow, hgood⟩
    rw [decode_of_row hrow, if_pos hgood]

/-- Each row of the tables reads its own selector and finds its operands in their fields. -/
theorem decodeFields_encode (i : Instr) : decodeFields (encode i) = .ok i := by
  cases i <;> rfl

end

/-! ## The issuer of a decoded operation -/

theorem decodeCmd_issuer {op : BitVec 8} {c : Agent} {x : Operands} {i : Instr}
    (h : decodeCmd op c x = .ok i) : (encode i).issuer = c := by
  unfold decodeCmd at h
  split at h
  case h_6 =>
    split at h
    · cases h
      exact Eq.symm ‹c = .host›
    · cases h
  case h_7 => cases h
  all_goals
    cases h
    rfl

theorem decodeCph_issuer {cphase : BitVec 3} {c : Agent} {i : Instr}
    (h : decodeCph cphase c = .ok i) : (encode i).issuer = c := by
  unfold decodeCph at h
  split at h <;> cases h <;> rfl

/-! ## Selectors that are no row -/

theorem decodeCmd_undefined {op : BitVec 8} (c : Agent) (x : Operands)
    (hop : op.toNat = 0 ∨ 7 ≤ op.toNat) : decodeCmd op c x = .error .undefinedCommand := by
  unfold decodeCmd
  split
  case h_7 => rfl
  all_goals omega

/-! ## Encoding -/

/-- Settles O2: the tables give the operation back, and the checks are those it passes. -/
theorem decodeOfEncode : Obligations.DecodeOfEncode := fun i hgood =>
  decode_eq_ok_iff.mpr ⟨decodeFields_encode i, hgood⟩

/-- Settles O3: the tables keep selector and issuer, and the checks keep ill-formed operations out. -/
theorem decodeKeepsSelector : Obligations.DecodeKeepsSelector := by
  rintro ⟨sel, c, x⟩ i h
  obtain ⟨hrow, hgood⟩ := decode_eq_ok_iff.mp h
  refine ⟨hgood, decode_selector h, ?_, ?_⟩
  · rintro op rfl
    exact decodeCmd_issuer hrow
  · rintro v rfl
    exact decodeCph_issuer hrow

/-- Settles O1, format by format: beside the table itself, a caller's command needs a caller, and PUSH a
frame. -/
theorem tableWordsDecode : Obligations.TableWordsDecode := by
  intro c x hc
  have hcaller : c.isCaller = true := Agent.isCaller_iff.mpr hc
  have commandRow {op : BitVec 8} {i : Instr} (hrow : decodeFields ⟨.cmd op, c, x⟩ = .ok i)
      (hchecks : i.wellFormed = c.isCaller) : decode ⟨.cmd op, c, x⟩ = .ok i :=
    decode_eq_ok_iff.mpr ⟨hrow, hchecks.trans hcaller⟩
  have pushRow : decodeFields ⟨.qop 0b01#2, c, x⟩ = .ok (.push x.frame) := rfl
  refine ⟨⟨commandRow rfl rfl, commandRow rfl rfl, commandRow rfl rfl, commandRow rfl rfl,
      commandRow rfl rfl, rfl⟩,
    ⟨rfl, rfl, rfl, rfl, rfl, rfl, rfl, rfl, rfl⟩, fun d => ⟨rfl, rfl, rfl, rfl, rfl, rfl⟩,
    ⟨fun hlen => ?_, fun hlen => ?_, rfl, rfl⟩, ⟨rfl, rfl, rfl⟩, ⟨rfl, rfl, rfl⟩⟩
  · exact decode_eq_ok_iff.mpr ⟨pushRow, Frame.ok_iff.mpr hlen⟩
  · exact (decode_of_row pushRow).trans (if_neg (mt Frame.ok_iff.mp hlen))

namespace Machine

/-! ## Steps -/

/-- The first refusal of a run sets the mark to its own name (R297). -/
theorem refuse_of_unmarked {s : State} (n : RefusalName) (h : s.refused = none) :
    s.refuse n = { s with refused := some n } := by
  simp [State.refuse, h]

/-- Settles O4: each of these selectors decodes to its own error, which marks the state by its name. -/
theorem undefinedSelectorsRefused : Obligations.UndefinedSelectorsRefused := by
  intro s hunmarked
  have marked {x : Stimulus} {e : DecodeError} {n : RefusalName}
      (he : decode (packetOf x s) = .error e) (hn : undecoded e s = .next (s.refuse n)) :
      s.takes x = .next { s with refused := some n } := by
    rw [takes_of_decode_error he, hn, refuse_of_unmarked n hunmarked]
  refine ⟨fun c op ops hop => ?_, fun ops => ?_, ?_⟩
  · exact marked (decode_of_no_row (decodeCmd_undefined c ops hop)) rfl
  · exact marked (e := .undefinedBusOp) rfl rfl
  · exact marked (e := .undefinedEnvOp) rfl rfl

theorem step_of_decode_ok {s : State} {i : Instr} (h : decode s.fetch = .ok i) :
    step s = exec i s.advance := by
  rw [step, h]

theorem nextStimulus_of_script {s : State} {x : Stimulus} {rest : List Stimulus}
    (h : s.script = x :: rest) : s.nextStimulus = x := by
  rw [State.nextStimulus, h]

theorem nextStimulus_of_no_script {s : State} (h : s.script = []) :
    s.nextStimulus = .agent (Config.schedule s.choices) := by
  rw [State.nextStimulus, h]

/-- Settles O7: the packet fetched is that of the next stimulus. -/
theorem stepRunsDecoded : Obligations.StepRunsDecoded := by
  intro s
  refine ⟨fun i h => step_of_decode_ok h, fun x rest h => ?_, fun h => ?_, fun ret => rfl,
    fun c => rfl⟩
  · rw [State.fetch, nextStimulus_of_script h]
  · rw [State.fetch, nextStimulus_of_no_script h]

/-! ## The mask of a selector -/

theorem getLsbD_buttonBit (a b : ButtonId) : (buttonBit a).getLsbD b.val = decide (b = a) := by
  decide +revert

/-- Setting the bits of some buttons in a mask sets those and keeps the others. -/
theorem getLsbD_foldl_buttonBit (l : List ButtonId) (m : BitVec 5) (b : ButtonId) :
    (l.foldl (fun m a => m ||| buttonBit a) m).getLsbD b.val =
      (m.getLsbD b.val || decide (b ∈ l)) := by
  induction l generalizing m with
  | nil => simp
  | cons a rest ih =>
    rw [List.foldl_cons, ih, BitVec.getLsbD_or, getLsbD_buttonBit]
    simp [Bool.or_assoc]

theorem mem_buttons (b : ButtonId) : b ∈ buttons := by
  decide +revert

/-- The mask of a set has the bits of its members (R99). -/
theorem getLsbD_selMask_set (S : Vector Bool 5) (b : ButtonId) :
    (selMask (.set S)).getLsbD b.val = S[b] := by
  rw [selMask, getLsbD_foldl_buttonBit]
  simp [mem_buttons]

/-- Settles O12: a set's mask is determined bit by bit, the other masks are definitions. -/
theorem selectorMask : Obligations.SelectorMask :=
  ⟨rfl, fun _ => rfl, getLsbD_selMask_set, rfl⟩

end Machine

end Sys2Proof
end

section
/-! SUPPORT. The bus transport (spec/40_bus_transport.md): which requests the port takes, what the three
primitives do (R120-R123), and the chunks of a frame (R125). -/

namespace Sys2Proof.Machine

/-! ## Requests the port takes -/

theorem readOk_iff {reg : Byte} : readOk reg = true ↔ reg = 0x00#8 := by
  rw [readOk, beq_iff_eq, regInput]

theorem writeOk_iff {reg : Byte} :
    writeOk reg = true ↔ reg = 0x01#8 ∨ reg = 0x02#8 ∨ reg = 0x03#8 := by
  simp only [writeOk, Bool.or_eq_true, beq_iff_eq, or_assoc, regOutput, regPolarity, regConfiguration]

theorem blockOk_iff {s : State} {reg : Byte} {bytes : List Byte} :
    blockOk s reg bytes = true ↔
      reg = 0x01#8 ∧ 1 ≤ bytes.length ∧ bytes.length ≤ s.maxChunk := by
  simp only [blockOk, Bool.and_eq_true, beq_iff_eq, decide_eq_true_eq, and_assoc, regOutput]

section
variable {good : Bool} {f : State → State} {s : State}

theorem busRequest_of_good (h : good = true) : busRequest good f s = f s := if_pos h

/-- The first bad request of a run marks the state, and does nothing else (R123, R297). -/
theorem busRequest_of_bad (hbad : ¬ good = true) (hunmarked : s.refused = none) :
    busRequest good f s = { s with refused := some .badBusRequest } :=
  (if_neg hbad).trans (refuse_of_unmarked _ hunmarked)

end

/-- Settles O41: the port takes each of these requests, and runs its primitive. -/
theorem busPort : Obligations.BusPort := by
  intro s
  refine ⟨?_, fun reg v hreg => ?_, fun bytes hpos hcap => ?_⟩
  · exact congrArg Host.Outcome.next (busRequest_of_good (readOk_iff.mpr rfl))
  · exact congrArg Host.Outcome.next (busRequest_of_good (writeOk_iff.mpr hreg))
  · exact congrArg Host.Outcome.next (busRequest_of_good (blockOk_iff.mpr ⟨rfl, hpos, hcap⟩))

/-- Settles O42: the port takes none of these requests, so each is the first refusal. -/
theorem badBusRequestRefused : Obligations.BadBusRequestRefused := by
  intro s hunmarked
  refine ⟨fun reg hreg => ?_, fun reg v hout hpol hconf => ?_, fun reg bytes hbad => ?_⟩
  · exact congrArg Host.Outcome.next (busRequest_of_bad (mt readOk_iff.mp hreg) hunmarked)
  · have hreg : ¬ writeOk reg = true := by
      rw [writeOk_iff]
      simp [hout, hpol, hconf]
    exact congrArg Host.Outcome.next (busRequest_of_bad hreg hunmarked)
  · have hblock : ¬ blockOk s reg bytes = true := by
      rw [blockOk_iff]
      rintro ⟨hreg, hpos, hcap⟩
      rcases hbad with hreg' | hempty | hlong
      · exact hreg' hreg
      · omega
      · omega
    exact congrArg Host.Outcome.next (busRequest_of_bad hblock hunmarked)

/-! ## The chunks of a frame -/

section
variable {c : Nat} (f : Frame)

/-- The chunks of a frame have room for all its bytes (R125). -/
theorem length_le_nchunks_mul (hc : 1 ≤ c) : f.length ≤ nchunks c f * c := by
  have hdiv := Nat.lt_div_mul_add (a := f.length + c - 1) hc
  rw [nchunks]
  omega

/-- With one chunk less there would be no room for all its bytes (R125). -/
theorem nchunks_mul_lt (hc : 1 ≤ c) : nchunks c f * c < f.length + c := by
  have hdiv := Nat.div_mul_le_self (f.length + c - 1) c
  rw [nchunks]
  omega

theorem length_chunk (k : Nat) : (chunk c f k).length = min c (f.length - k * c) := by
  rw [chunk, List.length_take, List.length_drop]

/-- A chunk as the slice of the frame that R125 gives it by. -/
theorem chunk_eq_slice (k : Nat) :
    chunk c f k = (f.take (min ((k + 1) * c) f.length)).drop (k * c) := by
  rw [← List.take_eq_take_min, List.drop_take, Nat.succ_mul, Nat.add_sub_cancel_left, chunk]

/-- The first chunks of a frame, one after the other, are a beginning of it: what their writes put on the
wire (R125). -/
theorem flatMap_chunk (k : Nat) : (List.range k).flatMap (chunk c f) = f.take (k * c) := by
  rw [← wire_frameWrites_ok 0 c f k]
  simp [frameWrites, wire, blockBytes, List.flatMap_map]

/-- A chunk that is not the last is full (R125). -/
theorem length_chunk_of_not_last {k : Nat} (hc : 1 ≤ c) (hk : k + 1 < nchunks c f) :
    (chunk c f k).length = c := by
  have hlast := nchunks_mul_lt f hc
  have hmul : (k + 2) * c ≤ nchunks c f * c := Nat.mul_le_mul_right c hk
  rw [Nat.add_mul] at hmul
  rw [length_chunk]
  omega

/-- The last chunk has the bytes left over: at least one, and no more than the cap (R125). -/
theorem length_chunk_of_last {k : Nat} (hc : 1 ≤ c) (hk : k + 1 = nchunks c f) :
    (chunk c f k).length = f.length - (nchunks c f - 1) * c ∧
      1 ≤ (chunk c f k).length ∧ (chunk c f k).length ≤ c := by
  have hroom := length_le_nchunks_mul f hc
  have hlast := nchunks_mul_lt f hc
  rw [← hk, Nat.succ_mul] at hroom hlast
  rw [← hk, Nat.add_sub_cancel, length_chunk]
  omega

end

/-- Settles O13: the number of chunks bounds the length from both sides, and that gives the lengths. -/
theorem chunksOfFrame : Obligations.ChunksOfFrame := by
  intro c f hc
  refine ⟨length_le_nchunks_mul f hc, nchunks_mul_lt f hc, ?_, fun k _ => ?_⟩
  · rw [flatMap_chunk]
    exact List.take_of_length_le (length_le_nchunks_mul f hc)
  · exact ⟨chunk_eq_slice f k, length_chunk_of_not_last f hc, length_chunk_of_last f hc⟩

end Sys2Proof.Machine
end

section
/-! SUPPORT. The frame encoder (spec/41_frame_encoder.md): the bytes of a serial expansion and of a frame
(R142, R145, R148), the validation of a colour (R146), and SET_COLOUR (R150). -/

namespace Sys2Proof.Machine

/-! ## The bit-serial expansion -/

/-- An Output byte as R142 writes it: bit `i` of `x` on the data line, the parity of `j` on the clock. -/
theorem lineByte_eq_shifts (x : Byte) (i j : Nat) :
    lineByte (x.getLsbD i) (decide (j % 2 = 1)) =
      (((x >>> i) &&& 1#8) <<< 7) ||| (BitVec.ofNat 8 (j &&& 1) <<< 6) := by
  rw [BitVec.and_one_eq_setWidth_ofBool_getLsbD, BitVec.getLsbD_ushiftRight, Nat.add_zero,
    Nat.and_one_is_mod]
  rcases Nat.mod_two_eq_zero_or_one j with hj | hj <;> rw [hj] <;> cases x.getLsbD i <;> rfl

/-- Both bytes of a pair have the pair's bit on the data line: the level is there before the clock rises,
and stays (R142). -/
theorem ser_data (x : Byte) {j : Nat} (hj : j < 16) :
    ((ser x)[j]?).map (fun y => y.getLsbD 7) = some (x.getLsbD (7 - j / 2)) := by
  rw [ser_get x j hj, Option.map_some, lineByte_bit7]

/-- Settles O8: the byte at a position is known, and the two positions of a pair have one half. -/
theorem serClosedForm : Obligations.SerClosedForm := by
  intro x
  refine ⟨fun j hj => ?_, fun k hk => ⟨?_, ?_⟩⟩
  · rw [ser_get x j hj, lineByte_eq_shifts, Nat.shiftRight_one]
  · have hhalf : 2 * k / 2 = k := by omega
    rw [ser_data x (by omega), hhalf]
  · have hhalf : (2 * k + 1) / 2 = k := by omega
    rw [ser_data x (by omega), hhalf]

/-- The expansion of a zero byte clocks eight low levels in. -/
theorem ser_zero : ser 0x00#8 = (List.replicate 8 [0x00#8, 0x40#8]).flatten := by decide

/-- Every second byte of an expansion has the clock high. -/
theorem countP_clock_ser (x : Byte) : (ser x).countP (fun y => y.getLsbD 6) = 8 := by
  simp only [ser_eq, List.countP_cons, List.countP_nil, lineByte_bit6, Bool.false_eq_true,
    if_true, if_false]

theorem countP_clock_flatMap_ser (l : List Byte) :
    (l.flatMap ser).countP (fun y => y.getLsbD 6) = 8 * l.length := by
  induction l with
  | nil => rfl
  | cons x rest ih =>
    rw [List.flatMap_cons, List.countP_append, countP_clock_ser, ih, List.length_cons]
    omega

/-! ## The layout of a frame -/

section
variable (p : Params) (rb gb bb : Byte)

/-- The byte at one position of a frame: 16 positions for each payload byte. -/
theorem encodeFrame_get {j : Nat} (hj : j < 128) :
    (encodeFrame p rb gb bb)[j]? =
      some (lineByte (((payload p rb gb bb).getD (j / 16) 0#8).getLsbD (7 - j % 16 / 2))
        (decide (j % 2 = 1))) :=
  flatMap_ser_get (payload p rb gb bb) j hj

/-- A frame is two zero bytes, the marker, the channels and two zero bytes, each expanded. -/
theorem encodeFrame_eq_append :
    encodeFrame p rb gb bb = [0x00#8, 0x00#8].flatMap ser ++ (ser marker ++
      ([gamma p bb, gamma p gb, gamma p rb].flatMap ser ++ [0x00#8, 0x00#8].flatMap ser)) := by
  simp [encodeFrame, payload]

/-- The 32 bytes a frame begins and ends with. -/
theorem flatMap_ser_zeros :
    [0x00#8, 0x00#8].flatMap ser = (List.replicate 16 [0x00#8, 0x40#8]).flatten := by
  simp [ser_zero]

theorem take_encodeFrame :
    (encodeFrame p rb gb bb).take 32 = [0x00#8, 0x00#8].flatMap ser := by
  rw [encodeFrame_eq_append]
  exact List.take_left' (flatMap_ser_length _)

theorem drop_encodeFrame_front :
    (encodeFrame p rb gb bb).drop 32 = ser marker ++
      ([gamma p bb, gamma p gb, gamma p rb].flatMap ser ++ [0x00#8, 0x00#8].flatMap ser) := by
  rw [encodeFrame_eq_append]
  exact List.drop_left' (flatMap_ser_length _)

theorem drop_encodeFrame_channels :
    (encodeFrame p rb gb bb).drop 96 = [0x00#8, 0x00#8].flatMap ser := by
  have hdrop : (encodeFrame p rb gb bb).drop 96 =
      (((encodeFrame p rb gb bb).drop 32).drop 16).drop 48 := by
    rw [List.drop_drop, List.drop_drop]
  rw [hdrop, drop_encodeFrame_front, List.drop_left' (ser_length _)]
  exact List.drop_left' (flatMap_ser_length _)

/-- Every byte of a frame has the parity of its position on the clock, and nothing below it. -/
theorem encodeFrame_clock {j : Nat} {y : Byte} (h : (encodeFrame p rb gb bb)[j]? = some y) :
    y.getLsbD 6 = decide (j % 2 = 1) ∧ y &&& 0x3F#8 = 0#8 := by
  obtain ⟨hj, -⟩ := List.getElem?_eq_some_iff.mp h
  rw [encodeFrame_length] at hj
  rw [encodeFrame_get p rb gb bb hj] at h
  cases h
  exact ⟨lineByte_bit6 _ _, lineByte_low _ _⟩

end

/-- Settles O9: the byte at a position, with the position's three parts read off by shifts and masks. -/
theorem frameLayout : Obligations.FrameLayout := by
  intro p rb gb bb
  refine ⟨encodeFrame_length p rb gb bb, fun j hj => ?_⟩
  have hbit : (j >>> 1) &&& 7 = j % 16 / 2 := by
    rw [Nat.and_two_pow_sub_one_eq_mod _ 3, Nat.shiftRight_one]
    omega
  rw [encodeFrame_get p rb gb bb hj, lineByte_eq_shifts, hbit, Nat.shiftRight_eq_div_pow]
  rfl

/-- Settles O10: the clock alternates from byte to byte, and the payload has its fixed bytes at both ends
and as its third. -/
theorem frameInvariants : Obligations.FrameInvariants := by
  intro p rb gb bb
  refine ⟨?_, ?_, fun j y => encodeFrame_clock p rb gb bb, ?_, ?_, ?_, ?_, rfl⟩
  · simp [encodeFrame_get, payload, lineByte]
  · simp [encodeFrame_get, payload, lineByte]
  · rw [← List.countP_eq_length_filter]
    exact countP_clock_flatMap_ser (payload p rb gb bb)
  · rw [take_encodeFrame, flatMap_ser_zeros]
  · rw [drop_encodeFrame_channels, flatMap_ser_zeros]
  · rw [drop_encodeFrame_front]
    exact List.take_left' (ser_length _)

/-! ## The validation of a colour -/

theorem channelByte_of_valid {n : Int} (hlo : 0 ≤ n) (hhi : n ≤ 255) :
    channelByte (.int n) = some (BitVec.ofInt 8 n) := if_pos ⟨hlo, hhi⟩

/-- An operand is invalid when it is no integer or one out of range (R146). -/
theorem channelByte_eq_none_iff {v : ChanVal} :
    channelByte v = none ↔ ∀ n : Int, v = .int n → n < 0 ∨ 255 < n := by
  cases v with
  | nonIntegral => exact iff_of_true rfl nofun
  | int n =>
    simp only [channelByte, ite_eq_right_iff, reduceCtorEq, imp_false, ChanVal.int.injEq, forall_eq']
    omega

theorem toNat_ofInt_of_valid {n : Int} (hlo : 0 ≤ n) (hhi : n ≤ 255) :
    ((BitVec.ofInt 8 n).toNat : Int) = n := by
  rw [BitVec.toNat_ofInt]
  omega

section
variable {r g b : ChanVal}

theorem checkColour_invalid_r (hr : channelByte r = none) : checkColour r g b = .error .r := by
  rw [checkColour, hr]

theorem checkColour_invalid_g (hr : channelByte r ≠ none) (hg : channelByte g = none) :
    checkColour r g b = .error .g := by
  obtain ⟨rb, hr⟩ := Option.ne_none_iff_exists'.mp hr
  rw [checkColour, hr, hg]

theorem checkColour_invalid_b (hr : channelByte r ≠ none) (hg : channelByte g ≠ none)
    (hb : channelByte b = none) : checkColour r g b = .error .b := by
  obtain ⟨rb, hr⟩ := Option.ne_none_iff_exists'.mp hr
  obtain ⟨gb, hg⟩ := Option.ne_none_iff_exists'.mp hg
  rw [checkColour, hr, hg, hb]

theorem checkColour_valid {rb gb bb : Byte} (hr : channelByte r = some rb)
    (hg : channelByte g = some gb) (hb : channelByte b = some bb) :
    checkColour r g b = .ok (rb, gb, bb) := by
  rw [checkColour, hr, hg, hb]

end

/-- Settles O11: a channel's own range decides its validity, and the channels are checked one after the
other. -/
theorem colourValidation : Obligations.ColourValidation := fun _ _ _ =>
  ⟨fun _ => channelByte_eq_none_iff,
    fun _ hlo hhi => ⟨_, channelByte_of_valid hlo hhi, toNat_ofInt_of_valid hlo hhi⟩,
    checkColour_invalid_r, checkColour_invalid_g, checkColour_invalid_b,
    fun _ _ _ => checkColour_valid, rfl, rfl, rfl⟩

/-! ## SET_COLOUR -/

section
variable {s : State}

/-- A queue with room is not full (R171). -/
theorem full_of_hasRoom (h : s.hasRoom) : s.full = false := by
  obtain hnone | ⟨j, hj, hlen⟩ := h
  · simp [State.full, State.capacity, hnone]
  · simpa [State.full, State.capacity, hj] using hlen

/-- PUSH on a queue with room appends the frame, and does nothing else (R170). -/
theorem push_of_hasRoom (h : s.hasRoom) (f : Frame) :
    s.push f = { s with queue := s.queue ++ [f] } := by
  simp [State.push, full_of_hasRoom h]

/-- The command of an agent that may issue it takes its effect. -/
theorem command_of_canIssue {c : Agent} (h : s.canIssue c = true) (f : State → State) :
    command c f s = .next (f s) := by
  simp [command, h]

/-- SET_COLOUR of a colour that passes the check pushes its frame (R150). -/
theorem setColourBody_of_valid {r g b : ChanVal} {rb gb bb : Byte} (c : Agent)
    (h : checkColour r g b = .ok (rb, gb, bb)) :
    setColourBody c r g b s = (s.push (encodeFrame s.params rb gb bb)).answerTo (.agent c) .ok := by
  rw [setColourBody, h]

end

/-- Settles O21: the three channels pass the check, and the queue has room for their frame. -/
theorem setColourPushes : Obligations.SetColourPushes := by
  intro s c r g b hissue hroom hr0 hr hg0 hg hb0 hb
  have hcheck := checkColour_valid (channelByte_of_valid hr0 hr) (channelByte_of_valid hg0 hg)
    (channelByte_of_valid hb0 hb)
  refine (command_of_canIssue hissue _).trans ?_
  rw [setColourBody_of_valid c hcheck, push_of_hasRoom hroom]
  rfl

end Sys2Proof.Machine
end

section
/-! SUPPORT. The update queue (spec/42_update_queue.md): PUSH on a full queue (R171), the operations of the
queue port (R170, R172, R174), and the FIFO law of runs (R175). -/

namespace Sys2Proof.Machine

section
variable {s t u : State} {i : Instr}

/-! ## What an operation does to the queue -/

/-- Of the operations, those that may overflow the queue are the ones that push (R171). -/
theorem pushedBy_of_not_writesOverflow (h : writesOverflow i = false) : pushedBy i s = [] := by
  unfold pushedBy
  split
  · rfl
  · cases i with
    | push | sPushoff | setColour => cases h
    | _ => rfl

theorem pushedBy_of_not_writesQueue (h : writesQueue i = false) : pushedBy i s = [] := by
  cases i with
  | push | sPushoff | setColour => cases h
  | _ => exact pushedBy_of_not_writesOverflow rfl

theorem poppedBy_of_not_writesQueue (h : writesQueue i = false) : poppedBy i s = [] := by
  cases i with
  | pop | tryPop => cases h
  | _ => rfl

/-- PUSH appends its frame where there is room, and nothing where there is none (R170, R171). -/
theorem push_queue_eq_append (s : State) (f : Frame) :
    (s.push f).queue = s.queue ++ pushedBy (.push f) s := by
  cases hfull : s.full <;> simp [pushedBy, hfull]

theorem exec_push (s : State) (f : Frame) :
    exec (.push f) s = .next ((s.push f).answerTo .port .done) := rfl

/-- TRY_POP on the queue port, with what it takes and leaves read off the queue (R172). -/
theorem exec_tryPop (s : State) : exec .tryPop s = .next { s with
    queue := s.queue.tail, reply := some (.port, .popped s.queue.head?) } := rfl

/-- SET_COLOUR pushes the frame of a valid colour, if its agent may issue it (R150). -/
theorem execSetColour_queue {c : Agent} {r g b : ChanVal} (h : execSetColour c r g b s = .next t) :
    t.queue = s.queue ++ pushedBy (.setColour c r g b) s := by
  obtain ⟨hc, rfl⟩ | ⟨hc, rfl⟩ := command_next h
  · cases hk : checkColour r g b with
    | error ch => simp [setColourBody, pushedBy, hk]
    | ok bytes =>
      obtain ⟨rb, gb, bb⟩ := bytes
      rw [setColourBody_of_valid c hk, answerTo_queue, push_queue_eq_append]
      simp [pushedBy, hc, hk]
  · simp [pushedBy, hc]

/-- S_PUSHOFF of an agent that is at that step pushes the all-off frame (R268). -/
theorem exec_sPushoff_of_enabled {c : Agent} (hc : s.cphase c = CPhase.sPushoff)
    (hx : s.present c = true) : exec (.sPushoff c) s =
      .next ((s.push (offFrame s.params)).setCphase c CPhase.sDrain2) :=
  congrArg Host.Outcome.next (if_pos ⟨hc, hx⟩)

/-- S_PUSHOFF of an agent that is not at that step is no step (log 6). -/
theorem exec_sPushoff_of_not_enabled {c : Agent}
    (h : ¬ (s.cphase c = CPhase.sPushoff ∧ s.present c = true)) :
    exec (.sPushoff c) s = .next s := congrArg Host.Outcome.next (if_neg h)

theorem exec_sPushoff_queue {c : Agent} (h : exec (.sPushoff c) s = .next t) :
    t.queue = s.queue ++ pushedBy (.sPushoff c) s := by
  by_cases hen : s.cphase c = CPhase.sPushoff ∧ s.present c = true
  · obtain ⟨hc, hx⟩ := hen
    obtain rfl := Host.Outcome.next.inj ((exec_sPushoff_of_enabled hc hx).symm.trans h)
    rw [setCphase_queue, push_queue_eq_append]
    simp [pushedBy, hc, hx, offFrame]
  · obtain rfl := Host.Outcome.next.inj ((exec_sPushoff_of_not_enabled hen).symm.trans h)
    simp only [pushedBy, if_neg hen, ite_self, List.append_nil]

/-- What TRY_POP takes off is the head of the queue, if any (R172). -/
theorem poppedBy_tryPop_append_tail (s : State) : poppedBy .tryPop s ++ s.queue.tail = s.queue := by
  cases hq : s.queue <;> simp [poppedBy, hq]

/-- The FIFO law of one operation. -/
theorem exec_fifo (h : exec i s = .next t) :
    poppedBy i s ++ t.queue = s.queue ++ pushedBy i s := by
  cases hw : writesQueue i with
  | false =>
    rw [(exec_effect h).queue_eq hw, poppedBy_of_not_writesQueue hw,
      pushedBy_of_not_writesQueue hw, List.nil_append, List.append_nil]
  | true =>
    cases i with
    | setColour c r g b => exact execSetColour_queue h
    | sPushoff c => exact exec_sPushoff_queue h
    | push f =>
      obtain rfl := Host.Outcome.next.inj h
      exact push_queue_eq_append s f
    | pop =>
      rw [pushedBy_of_not_writesOverflow rfl, List.append_nil]
      exact execPop_queue h
    | tryPop =>
      obtain rfl := Host.Outcome.next.inj h
      rw [pushedBy_of_not_writesOverflow rfl, List.append_nil]
      exact poppedBy_tryPop_append_tail s
    | _ => cases hw

/-! ## The FIFO law of a run -/

/-- A run pushes what its first step pushes, and then what the rest of it does. -/
theorem pushedIn_succ (h : step s = .next u) (n : Nat) :
    pushedIn (n + 1) s = pushedIn 1 s ++ pushedIn n u := by
  cases hd : decode s.fetch <;> simp [pushedIn, hd, h]

/-- The FIFO law of one step: that of the operation it runs, and a packet that is no operation leaves
the queue alone. -/
theorem step_fifo (h : step s = .next t) :
    poppedIn 1 s ++ t.queue = s.queue ++ pushedIn 1 s := by
  obtain ⟨i, hd, -⟩ | ⟨e, _, _, hd, rfl, -⟩ := step_effect h
  · simpa [poppedIn, pushedIn, hd, h] using exec_fifo (exec_of_step h hd)
  · simp [poppedIn, pushedIn, hd, h]

end

/-- Settles O56, by induction on the number of steps. -/
theorem fifoLaw : Obligations.FifoLaw := by
  intro n s t hrun
  induction n generalizing s with
  | zero =>
    obtain rfl := Host.Outcome.next.inj hrun
    exact (List.append_nil _).symm
  | succ n ih =>
    obtain ⟨u, hstep, hrest⟩ := run_inv hrun
    calc poppedIn (n + 1) s ++ t.queue
        = poppedIn 1 s ++ (poppedIn n u ++ t.queue) := by
          rw [poppedIn_succ hstep, List.append_assoc]
      _ = (poppedIn 1 s ++ u.queue) ++ pushedIn n u := by rw [ih u hrest, List.append_assoc]
      _ = s.queue ++ pushedIn (n + 1) s := by
          rw [step_fifo hstep, pushedIn_succ hstep n, List.append_assoc]

/-! ## A full queue -/

section
variable {s : State}

/-- A queue at its finite capacity is full (R171). -/
theorem full_of_capacity_le {j : Nat} (hcap : s.params.capacityExtra = some j)
    (hlen : j + 1 ≤ s.queue.length) : s.full = true := by
  simpa [State.full, State.capacity, hcap] using hlen

/-- PUSH on a full queue sets the overflow fault, and does nothing else (R171). -/
theorem push_of_full (h : s.full = true) (f : Frame) :
    s.push f = { s with faults := { s.faults with queueOverflow := true } } := by
  simp [State.push, h]

end

/-- Settles O23: each of the three operations runs PUSH, and the queue is full. -/
theorem queueOverflow : Obligations.QueueOverflow := by
  intro s j hcap hlen
  have hpush := push_of_full (full_of_capacity_le hcap hlen)
  refine ⟨fun f => ?_, fun c r g b bytes hissue hcheck => ?_, fun c hc hx => ?_⟩
  · rw [exec_push, hpush]
    rfl
  · refine (command_of_canIssue hissue _).trans ?_
    rw [setColourBody_of_valid c hcheck, hpush]
    rfl
  · refine ⟨_, exec_sPushoff_of_enabled hc hx, ?_, ?_, ?_⟩
    · rw [hpush, setCphase_queue]
    · rw [hpush, setCphase_faults]
    · rw [cphase_setCphase, if_pos rfl]

/-! ## The queue port -/

section
variable {s : State}

theorem whenDrained_of_drained (hq : s.queue = []) (hin : s.inflight = none) (f : State → State) :
    s.whenDrained f = f s := if_pos ((drained_iff s).mpr ⟨hq, hin⟩)

/-- With a frame queued or in flight a drain holds (R174). -/
theorem whenDrained_of_not_drained (h : s.queue ≠ [] ∨ s.inflight ≠ none)
    (f : State → State) : s.whenDrained f = s :=
  if_neg fun hd => by
    obtain ⟨hq, hin⟩ := (drained_iff s).mp hd
    exact h.elim (· hq) (· hin)

end

/-- Settles O40: PUSH has room, TRY_POP takes the queue's head, and DRAIN_WAIT asks for `drained`. -/
theorem queuePort : Obligations.QueuePort := by
  intro s
  refine ⟨fun f hroom => ?_, fun f q hq => ?_, fun hq => ?_, fun hq hin => ?_, fun h => ?_⟩
  · rw [exec_push, push_of_hasRoom hroom]
    rfl
  · simp [exec_tryPop, hq]
  · simp [exec_tryPop, hq]
  · exact congrArg Host.Outcome.next (whenDrained_of_drained hq hin _)
  · exact congrArg Host.Outcome.next (whenDrained_of_not_drained h _)

end Sys2Proof.Machine
end

section
/-! SUPPORT. The per-button edge comparator (spec/43_poll_dispatch.md R195, R201, R202). -/

namespace Sys2Proof.Machine

section
variable {p c q d : Byte}

/-! ## Membership in EDGE -/

/-- The event of a lane: the previous bit says which one it would be, the current bit whether it is one. -/
theorem edgeAt_eq_some_iff {i : ButtonId} {e : Event} :
    edgeAt p c i = some e ↔
      e.button = i ∧ p.getLsbD i.val = e.pressed ∧ c.getLsbD i.val = !e.pressed := by
  obtain ⟨b, pressed⟩ := e
  unfold edgeAt
  cases p.getLsbD i.val <;> cases c.getLsbD i.val <;> cases pressed <;> simp [eq_comm]

theorem mem_edge_iff {e : Event} :
    e ∈ edge p c ↔
      p.getLsbD e.button.val = e.pressed ∧ c.getLsbD e.button.val = !e.pressed := by
  rw [edge, List.mem_filterMap]
  constructor
  · rintro ⟨i, -, hi⟩
    obtain ⟨rfl, hbits⟩ := edgeAt_eq_some_iff.mp hi
    exact hbits
  · intro hbits
    exact ⟨e.button, mem_buttons e.button, edgeAt_eq_some_iff.mpr ⟨rfl, hbits⟩⟩

/-- EDGE depends on the two snapshots through the bits of the five lanes alone. -/
theorem edge_congr (hp : ∀ i : ButtonId, p.getLsbD i.val = q.getLsbD i.val)
    (hc : ∀ i : ButtonId, c.getLsbD i.val = d.getLsbD i.val) : edge p c = edge q d :=
  List.filterMap_congr fun i _ => by rw [edgeAt, edgeAt, hp i, hc i]

@[simp] theorem edge_self (p : Byte) : edge p p = [] := by
  refine List.eq_nil_iff_forall_not_mem.mpr fun e he => ?_
  obtain ⟨hprev, hcurr⟩ := mem_edge_iff.mp he
  simp [hprev] at hcurr

/-- EDGE keeps the order of the lanes. -/
theorem edge_sorted (p c : Byte) : (edge p c).Pairwise fun a b => a.button < b.button := by
  refine List.Pairwise.filterMap _ (R := (· < ·)) (fun i j hij a ha b hb => ?_) (by decide)
  obtain ⟨rfl, -⟩ := edgeAt_eq_some_iff.mp ha
  obtain ⟨rfl, -⟩ := edgeAt_eq_some_iff.mp hb
  exact hij

/-! ## The five lanes -/

theorem getLsbD_laneMask (i : Nat) : (0x1F#8).getLsbD i = decide (i < 5) := by
  have hmask : (0x1F#8).getLsbD i = Nat.testBit (2 ^ 5 - 1) i := rfl
  rw [hmask, Nat.testBit_two_pow_sub_one]

theorem getLsbD_pressMask (p c : Byte) (i : Nat) :
    (pressMask p c).getLsbD i = (p.getLsbD i && !c.getLsbD i && decide (i < 5)) := by
  rw [pressMask, BitVec.getLsbD_and, BitVec.getLsbD_and, BitVec.getLsbD_not, getLsbD_laneMask]
  by_cases hi : i < 5
  · have : i < 8 := by omega
    simp [hi, this]
  · simp [hi]

/-- A release is a press with the two snapshots exchanged. -/
theorem releaseMask_eq_pressMask (p c : Byte) : releaseMask p c = pressMask c p := by
  rw [releaseMask, pressMask, BitVec.and_comm (~~~p)]

/-- Two bytes with the same low five bits have the same lanes. -/
theorem lane_eq_of_and_eq (h : p &&& 0x1F#8 = q &&& 0x1F#8) (i : ButtonId) :
    p.getLsbD i.val = q.getLsbD i.val := by
  have hbit := congrArg (·.getLsbD i.val) h
  simpa only [BitVec.getLsbD_and, getLsbD_laneMask, i.isLt, decide_true, Bool.and_true] using hbit

end

/-! ## The statements -/

/-- Settles O14: an event's bits decide its membership, and a mask reads the same bits. -/
theorem edgeComparator : Obligations.EdgeComparator := by
  intro prev curr
  refine ⟨fun i => ⟨mem_edge_iff, mem_edge_iff, ?_, ?_⟩, fun i hi => ⟨?_, ?_⟩, edge_sorted prev curr⟩
  · rw [getLsbD_pressMask]
    simp [mem_edge_iff]
  · rw [releaseMask_eq_pressMask, getLsbD_pressMask]
    simp [mem_edge_iff, Bool.and_comm]
  · simp [getLsbD_pressMask, Nat.not_lt.mpr hi]
  · simp [releaseMask_eq_pressMask, getLsbD_pressMask, Nat.not_lt.mpr hi]

/-- Settles O15: the previous bit of a button is 1 for a press and 0 for a release. -/
theorem oneEdgePerButton : Obligations.OneEdgePerButton := by
  intro prev curr
  constructor
  · refine BitVec.eq_of_getLsbD_eq fun i _ => ?_
    rw [releaseMask_eq_pressMask, BitVec.getLsbD_and, getLsbD_pressMask, getLsbD_pressMask]
    cases prev.getLsbD i <;> simp
  · rintro ⟨b, pressed⟩ he ⟨b', pressed'⟩ hd rfl
    obtain ⟨hprev, -⟩ := mem_edge_iff.mp he
    obtain ⟨hprev', -⟩ := mem_edge_iff.mp hd
    exact congrArg (Event.mk b) (hprev.symm.trans hprev')

/-- CMP with a snapshot leaves EDGE of the two snapshots: the guard spares only an EDGE that is empty. -/
theorem exec_cmp_of_snapshot {s : State} {v : Byte} (hp : s.phase = Phase.cmp)
    (hs : s.curSnapshot = some v) :
    exec .cmp s = .next { s with events := edge s.lastSnapshot v, phase := Phase.dispatch } := by
  refine (workerStep_of_phase hp cmpBody).trans ?_
  by_cases hv : v = s.lastSnapshot <;> simp [cmpBody, hs, hv]

/-- Settles O16. -/
theorem cmpGuardRedundant : Obligations.CmpGuardRedundant :=
  ⟨edge_self, fun _ _ _ _ hp hc => edge_congr (lane_eq_of_and_eq hp) (lane_eq_of_and_eq hc),
    fun _ _ => exec_cmp_of_snapshot⟩

end Sys2Proof.Machine
end

section
/-! SUPPORT. The worker's steps and the return of a handler (spec/43_poll_dispatch.md R190-R199), each as
the equation of its case. -/

namespace Sys2Proof.Machine

section
variable {s t : State}

/-! ## The steps without a body of their own -/

theorem exec_check (s : State) : exec .check s =
    workerStep Phase.check (fun s => s.goto (if s.running then Phase.pop else Phase.exited)) s := rfl

theorem exec_sleep (s : State) :
    exec .sleep s = workerStep Phase.sleep (fun s => s.goto Phase.check) s := rfl

theorem exec_hwait_none (s : State) : exec (.hwait none) s = .next s :=
  congrArg Host.Outcome.next (ite_self s)

theorem exec_hwait_some (ret : HandlerReturn) (s : State) : exec (.hwait (some ret)) s =
    workerStep Phase.hwait (fun s => s.handlerReturns ret) s := rfl

/-! ## Steps that are not enabled -/

theorem workerStep_of_ne_phase {p : Phase} (h : s.phase ≠ p) (f : State → State) :
    workerStep p f s = .next s := by
  simp [workerStep, h]

/-- A handler's return is no step outside HWAIT, without a call, or inside STOP (R244, R332; log 12). -/
theorem handlerReturns_of_not_enabled
    (h : s.phase ≠ Phase.hwait ∨ s.call = none ∨ s.cphase .hctx ≠ CPhase.idle)
    (ret : HandlerReturn) : s.handlerReturns ret = s := by
  obtain hsame | ⟨inv, es, hcall, hp, hidle, -⟩ := handlerReturns_cases s ret
  · exact hsame
  · simp [hcall, hp, hidle] at h

/-! ## CHECK -/

/-- Only CHECK leads to EXITED: the other operations that move the phase name another one (R190). -/
theorem Effect.eq_check_of_exits {i : Instr} (h : Effect s i t) (hs : s.phase ≠ Phase.exited)
    (ht : t.phase = Phase.exited) : i = .check := by
  cases h with
  | checked => rfl
  | startSpawns | popped | popNothing | writeLastChunk | writeFails | readSampled | readFails
  | compared | dispatchDone | dispatchInvoked | handlerOk | handlerExc | updated | slept =>
    simp at ht
  | _ => exact absurd ht hs

/-! ## POP -/

theorem popBody_of_pastFinalDrain (h : s.pastFinalDrain = true) : popBody s = s.goto Phase.read := by
  rw [popBody, if_pos h]

theorem popBody_of_queue_nil (h : s.queue = []) : popBody s = s.goto Phase.read := by
  simp [popBody, State.popped, State.popQueue, State.goto, h]

theorem popBody_of_queue_cons {f : Frame} {q : List Frame} (h : s.queue = f :: q)
    (hd : ¬ s.pastFinalDrain = true) :
    popBody s = { s with queue := q, inflight := some (f, 0), phase := Phase.write } := by
  simp [popBody, State.popped, State.popQueue, h, hd]

/-! ## WRITE and READ -/

theorem one_le_maxChunk (s : State) : 1 ≤ s.maxChunk := Nat.le_add_left 1 _

/-- A chunk of a frame is one the bus port takes: converse of `lt_nchunks_of_blockOk` (R122, R125). -/
theorem blockOk_of_lt_nchunks {f : Frame} {k : Nat} (h : k < nchunks s.maxChunk f) :
    blockOk s regOutput (chunk s.maxChunk f k) = true := by
  have hc := one_le_maxChunk s
  refine blockOk_iff.mpr ⟨rfl, ?_⟩
  obtain hnot | hlast := Nat.lt_or_eq_of_le (Nat.succ_le_of_lt h)
  · rw [length_chunk_of_not_last f hc hnot]
    exact ⟨hc, le_rfl⟩
  · exact (length_chunk_of_last f hc hlast).2

/-- WRITE of a chunk of the frame in flight makes its transaction (R192). -/
theorem writeBody_of_inflight {f : Frame} {k : Nat} (hi : s.inflight = some (f, k))
    (hk : k < nchunks s.maxChunk f) : writeBody s = writeChunk f k s := by
  simp [writeBody, hi, busRequest_of_good (blockOk_of_lt_nchunks hk)]

/-- What WRITE of chunk `k` leaves when it is answered `ok`. -/
theorem writeChunk_of_ok (f : Frame) (k : Nat) (ha : Answer.isOk s.nextAnswer = true)
    (hp : s.phase = Phase.write) :
    writeChunk f k s = { s with
      busLog := s.busLog ++ [.block s.params.deviceAddr regOutput (chunk s.maxChunk f k) true]
      answers := s.answers.tail, draws := s.draws + 1
      inflight := if k + 1 < nchunks s.maxChunk f then some (f, k + 1) else none
      phase := if k + 1 < nchunks s.maxChunk f then Phase.write else Phase.read } := by
  by_cases hk : k + 1 < nchunks s.maxChunk f <;>
    simp [writeChunk, memWriteBlock, State.transact, ha, hk, hp]

theorem exec_write_ok {f : Frame} {k : Nat} (hp : s.phase = Phase.write)
    (hi : s.inflight = some (f, k)) (hk : k < nchunks s.maxChunk f)
    (ha : Answer.isOk s.nextAnswer = true) :
    exec .write s = .next { s with
      busLog := s.busLog ++ [.block s.params.deviceAddr regOutput (chunk s.maxChunk f k) true]
      answers := s.answers.tail, draws := s.draws + 1
      inflight := if k + 1 < nchunks s.maxChunk f then some (f, k + 1) else none
      phase := if k + 1 < nchunks s.maxChunk f then Phase.write else Phase.read } := by
  refine (workerStep_of_phase hp writeBody).trans (congrArg _ ?_)
  rw [writeBody_of_inflight hi hk, writeChunk_of_ok f k ha hp]

/-! ## DISPATCH and HWAIT -/

theorem handlerReturns_of_enabled {inv : Invocation} (hp : s.phase = Phase.hwait)
    (hcall : s.call = some inv) (hidle : s.cphase .hctx = CPhase.idle) :
    s.handlerReturns .ok = { s with call := none, phase := Phase.dispatch } ∧
      s.handlerReturns .exc = { s with
        errLog := s.errLog ++ [⟨4, .event inv.event⟩], call := none, phase := Phase.dispatch } := by
  simp [State.handlerReturns, State.raiseError, handlerException, hcall, hp, hidle]

end

/-! ## The statements -/

/-- Settles O26. -/
theorem checkTestsRunning : Obligations.CheckTestsRunning := by
  intro s
  refine ⟨fun hp hr => ?_, fun hp hr => ?_, fun i t h => (exec_effect h).eq_check_of_exits,
    fun x => decode_noWorkerStep .host x (.inl rfl)⟩
  · simp [exec_check, workerStep_of_phase hp, State.goto, hr]
  · simp [exec_check, workerStep_of_phase hp, State.goto, hr]

/-- Settles O27: whether S_DRAIN2 has completed decides before the queue is looked at. -/
theorem popTakesOldest : Obligations.PopTakesOldest := by
  intro s hp
  have hpop : exec .pop s = .next (popBody s) := workerStep_of_phase hp popBody
  refine ⟨fun f q hq hl hc => ?_, fun hq => ?_, fun hd => ?_⟩
  · have hnot : ¬ s.pastFinalDrain = true := by
      rw [pastFinalDrain_iff]
      rintro (hstopped | ⟨c, hcp⟩)
      · exact hl hstopped
      · exact hcp.elim (hc c).1 (hc c).2
    rw [hpop, popBody_of_queue_cons hq hnot]
  · rw [hpop, popBody_of_queue_nil hq]
    rfl
  · rw [hpop, popBody_of_pastFinalDrain ((pastFinalDrain_iff s).mpr hd)]
    rfl

/-- Settles O28. -/
theorem writeChunkOk : Obligations.WriteChunkOk := fun _ _ _ => exec_write_ok

/-- Settles O30. -/
theorem readSamplesInput : Obligations.ReadSamplesInput := by
  intro s v hp ha
  refine (workerStep_of_phase hp readBody).trans ?_
  simp [readBody, memRead, State.transact, regInput, ha]

/-- Settles O31: the slot read is the one of the event's kind. -/
theorem dispatchInvokes : Obligations.DispatchInvokes := by
  intro s hp
  have hdispatch : exec .dispatch s = .next (dispatchBody s) := workerStep_of_phase hp dispatchBody
  refine ⟨fun he => ?_, fun b p rest he => ⟨fun hslot => ?_, fun h hslot => ?_⟩⟩
  · simp [hdispatch, dispatchBody, State.goto, he]
  · simp [hdispatch, dispatchBody, Event.kind, he, hslot]
  · simp [hdispatch, dispatchBody, Event.kind, he, hslot]

/-- Settles O32: the environment step and HWAIT's sample are the same return. -/
theorem handlerReturnLiftsHold : Obligations.HandlerReturnLiftsHold := by
  intro s inv hp hcall hidle
  obtain ⟨hok, hexc⟩ := handlerReturns_of_enabled hp hcall hidle
  constructor
  · rintro i (rfl | rfl)
    · exact congrArg Host.Outcome.next hok
    · rw [exec_hwait_some, workerStep_of_phase hp, hok]
  · rintro i (rfl | rfl)
    · exact congrArg Host.Outcome.next hexc
    · rw [exec_hwait_some, workerStep_of_phase hp, hexc]

/-- Settles O33. -/
theorem workerStepsHold : Obligations.WorkerStepsHold := by
  intro s
  refine ⟨exec_hwait_none s, fun h => ?_,
    fun h => (exec_check s).trans (workerStep_of_ne_phase h _),
    fun h => workerStep_of_ne_phase h _, fun h => workerStep_of_ne_phase h _,
    fun h => workerStep_of_ne_phase h _, fun h => workerStep_of_ne_phase h _,
    fun h => workerStep_of_ne_phase h _, fun h => workerStep_of_ne_phase h _,
    fun h => (exec_sleep s).trans (workerStep_of_ne_phase h _)⟩
  have hstays := handlerReturns_of_not_enabled h
  refine ⟨congrArg Host.Outcome.next (hstays .ok), congrArg Host.Outcome.next (hstays .exc), ?_⟩
  rintro (- | ret)
  · exact exec_hwait_none s
  · simp [exec_hwait_some, workerStep, hstays]

/-- Settles O34. -/
theorem updateAndSleep : Obligations.UpdateAndSleep := by
  intro s
  refine ⟨fun v hp hs => ?_, fun hp => (exec_sleep s).trans (workerStep_of_phase hp _)⟩
  exact (workerStep_of_phase hp updateBody).trans (by simp [updateBody, hs])

end Sys2Proof.Machine
end

section
/-! SUPPORT. The invariant of the machine is kept by every step (spec/43_poll_dispatch.md R200): the worker's
own state, the callers inside STOP, and the packets that are no operation. -/

namespace Sys2Proof.Machine

section
variable {s t : State} {i : Instr}

/-! ## The worker's own state (R27-R32) -/

theorem Effect.maxChunk_eq (h : Effect s i t) : t.maxChunk = s.maxChunk :=
  congrArg (·.chunkExtra + 1) h.params_eq

theorem Effect.keeps_phase_defined (h : Effect s i t) (hs : s.WorkerCoherent) :
    t.phase.toNat ≤ 9 ∨ t.phase = Phase.unspawned := by
  cases h with
  | checked => cases s.running <;> simp
  | startSpawns | popped | popNothing | writeLastChunk | writeFails | readSampled | readFails
  | compared | dispatchDone | dispatchInvoked | handlerOk | handlerExc | updated | slept =>
    exact .inl (by simp)
  | _ => exact hs.phase_defined

/-- A frame comes with WRITE and goes with it (R30). -/
theorem Effect.keeps_inflight_iff (h : Effect s i t) (hs : s.WorkerCoherent) :
    t.inflight.isSome ↔ t.phase = Phase.write := by
  have hiff := hs.inflight_iff
  cases h with
  | startSpawns | popped | writeLastChunk | writeFails => simp
  | writeNextChunk _ _ hp => simp [hp]
  | checked hp => cases hr : s.running <;> simpa [hp] using hiff
  | popNothing hp | readSampled _ hp | readFails hp | compared _ hp | dispatchDone hp
  | dispatchInvoked _ _ _ hp | handlerOk _ _ _ hp | handlerExc _ _ _ hp | updated _ hp | slept hp =>
    simpa [hp] using hiff
  | _ => exact hiff

/-- A frame has a first chunk (R11, R125). -/
theorem nchunks_pos {c : Nat} {f : Frame} (hc : 1 ≤ c) (hf : f.length = 128) :
    0 < nchunks c f := by
  have hroom := length_le_nchunks_mul f hc
  refine Nat.pos_of_ne_zero fun hzero => ?_
  rw [hzero, hf] at hroom
  omega

theorem Effect.keeps_inflight_index (h : Effect s i t) (hs : s.WorkerCoherent) :
    ∀ f k, t.inflight = some (f, k) → f.length = 128 ∧ k < nchunks t.maxChunk f := by
  rw [h.maxChunk_eq]
  cases h with
  | startSpawns | writeLastChunk | writeFails => nofun
  | popped g _ _ hq =>
    rintro _ _ ⟨⟩
    have hg : g.length = 128 := hs.queue_frames g (by simp [hq])
    exact ⟨hg, nchunks_pos (one_le_maxChunk s) hg⟩
  | writeNextChunk g j _ hi _ _ hk =>
    rintro _ _ ⟨⟩
    exact ⟨(hs.inflight_index g j hi).1, hk⟩
  | _ => exact hs.inflight_index

/-- What a push leaves in the queue is a frame if it pushes one (R20, R170). -/
theorem length_of_mem_push {f g : Frame} (hs : s.WorkerCoherent) (hf : f.length = 128)
    (hg : g ∈ if s.full then s.queue else s.queue ++ [f]) : g.length = 128 := by
  split at hg
  · exact hs.queue_frames g hg
  · obtain hold | hnew := List.mem_append.mp hg
    · exact hs.queue_frames g hold
    · rwa [List.mem_singleton.mp hnew]

theorem Effect.keeps_queue_frames (h : Effect s i t) (hs : s.WorkerCoherent)
    (hgood : i.wellFormed = true) : ∀ f ∈ t.queue, f.length = 128 := by
  cases h with
  | colourPushed | pushedOff => exact fun g => length_of_mem_push hs (encodeFrame_length _ _ _ _)
  | portPushed f => exact fun g => length_of_mem_push hs (Frame.ok_iff.mp hgood)
  | popped f q _ hq => exact fun g hg => hs.queue_frames g (by simp [hq, hg])
  | portPopped => exact fun g hg => hs.queue_frames g (List.mem_of_mem_tail hg)
  | _ => exact hs.queue_frames

/-- A snapshot comes with READ and goes with UPDATE (R29). -/
theorem Effect.keeps_snapshot_iff (h : Effect s i t) (hs : s.WorkerCoherent) :
    t.curSnapshot.isSome ↔ 4 ≤ t.phase.toNat ∧ t.phase.toNat ≤ 7 := by
  have hiff := hs.snapshot_iff
  cases h with
  | startSpawns | readSampled | updated => simp
  | checked hp => cases hr : s.running <;> simpa [hp] using hiff
  | popped _ _ hp | popNothing hp | writeLastChunk _ _ hp | writeFails _ _ hp | readFails hp
  | compared _ hp | dispatchDone hp | dispatchInvoked _ _ _ hp | handlerOk _ _ _ hp
  | handlerExc _ _ _ hp | slept hp =>
    simpa [hp] using hiff
  | _ => exact hiff

/-- Events come with CMP and are gone before UPDATE (R31). -/
theorem Effect.keeps_events_phase (h : Effect s i t) (hs : s.WorkerCoherent) :
    t.events ≠ [] → t.phase = Phase.dispatch ∨ t.phase = Phase.hwait := by
  have himp := hs.events_phase
  cases h with
  | startSpawns | compared | dispatchInvoked | handlerOk | handlerExc => simp
  | dispatchDone _ he => exact fun hne => absurd he hne
  | dispatchDropped _ _ hp => exact fun _ => .inl hp
  | checked hp | popped _ _ hp | popNothing hp | writeLastChunk _ _ hp | writeFails _ _ hp
  | readSampled _ hp | readFails hp | updated _ hp | slept hp =>
    have hnone : s.events = [] := by simpa [hp] using himp
    exact fun hne => absurd hnone hne
  | _ => exact himp

/-- An invocation comes with HWAIT and goes with the handler's return (R32). -/
theorem Effect.keeps_call_iff (h : Effect s i t) (hs : s.WorkerCoherent) :
    t.call.isSome ↔ t.phase = Phase.hwait := by
  have hiff := hs.call_iff
  cases h with
  | startSpawns | dispatchInvoked | handlerOk | handlerExc => simp
  | checked hp => cases hr : s.running <;> simpa [hp] using hiff
  | popped _ _ hp | popNothing hp | writeLastChunk _ _ hp | writeFails _ _ hp | readSampled _ hp
  | readFails hp | compared _ hp | dispatchDone hp | updated _ hp | slept hp =>
    simpa [hp] using hiff
  | _ => exact hiff

/-- WRITE finds its frame, and CMP and UPDATE their snapshot (R200). -/
theorem Effect.keeps_no_bad_phase (h : Effect s i t) (hs : s.WorkerCoherent) :
    t.faults.badPhase = false := by
  cases h with
  | writeNoFrame hp hi => simpa [hi, hp] using hs.inflight_iff
  | cmpNoSnapshot hp hnone | updateNoSnapshot hp hnone => simpa [hnone, hp] using hs.snapshot_iff
  | _ => exact hs.no_bad_phase

theorem Effect.keeps_workerCoherent (h : Effect s i t) (hs : s.WorkerCoherent)
    (hgood : i.wellFormed = true) : t.WorkerCoherent :=
  ⟨h.keeps_phase_defined hs, h.keeps_inflight_iff hs, h.keeps_inflight_index hs,
    h.keeps_queue_frames hs hgood, h.keeps_snapshot_iff hs, h.keeps_events_phase hs,
    h.keeps_call_iff hs, h.keeps_no_bad_phase hs⟩

end

end Sys2Proof.Machine
end

section
/-! SUPPORT. The invariant of the lifecycle and of the callers inside STOP is kept by every operation (R21,
R22, R33, R265-R272). -/

namespace Sys2Proof.Machine

/-! ## The callers inside STOP -/

/-- What the invariant says of the callers alone: who is inside STOP, and what that says of lifecycle and
running flag. -/
structure State.CallersCoherent (s : State) : Prop where
  running_iff : s.running = true ↔
    s.lifecycle = .running ∨ ∃ c, 1 ≤ (s.cphase c).toNat ∧ (s.cphase c).toNat ≤ 4
  stopping_iff : s.lifecycle = .stopping ↔ ∃ c, s.stopper c
  one_stopper : ∀ c d, s.stopper c → s.stopper d → c = d
  waiter : ∀ c, s.cphase c = CPhase.sWait → s.lifecycle = .stopping ∨ s.lifecycle = .stopped
  cphase_defined : ∀ c, s.cphase c ≠ 7#3

/-- The agent is in no step of a STOP in progress: it is IDLE, or waits for another agent's STOP. -/
def State.bystander (s : State) (c : Agent) : Prop :=
  s.cphase c = CPhase.idle ∨ s.cphase c = CPhase.sWait

section
variable {s t : State} {i : Instr} {c d : Agent}

theorem State.LifecycleCoherent.callers (hs : s.LifecycleCoherent) : s.CallersCoherent :=
  ⟨hs.running_iff, hs.stopping_iff, hs.one_stopper, hs.waiter, hs.cphase_defined⟩

/-- The eight values of `cphase` (R33). -/
theorem cphase_cases (v : CPhase) :
    (v = CPhase.idle ∨ v = CPhase.sWait) ∨ (1 ≤ v.toNat ∧ v.toNat ≤ 5) ∨ v = 7#3 := by
  decide +revert

theorem State.bystander.not_stopper (h : s.bystander c) : ¬ s.stopper c := by
  obtain h | h := h <;> simp [State.stopper, h]

theorem State.bystander.defined (h : s.bystander c) : s.cphase c ≠ 7#3 := by
  obtain h | h := h <;> simp [h]

theorem State.stopper.defined (h : s.stopper c) : s.cphase c ≠ 7#3 := fun h7 => by
  simp [State.stopper, h7] at h

theorem cphase_of_cphases_eq_set {v : CPhase}
    (h : t.cphases = setPhaseOf s.cphases (Agent.key c) v) (d : Agent) :
    t.cphase d = if d = c then v else s.cphase d :=
  (cphase_congr (t := s.setCphase c v) h d).trans (cphase_setCphase s c d v)

namespace State.CallersCoherent

theorem bystander_of_not_stopper (hs : s.CallersCoherent) (h : ¬ s.stopper c) : s.bystander c :=
  (cphase_cases (s.cphase c)).resolve_right (not_or_intro h (hs.cphase_defined c))

theorem bystander_of_ne_stopper (hs : s.CallersCoherent) (hc : s.stopper c) (hd : d ≠ c) :
    s.bystander d :=
  hs.bystander_of_not_stopper fun h => hd (hs.one_stopper d c h hc)

theorem bystander_of_not_stopping (hs : s.CallersCoherent) (hl : s.lifecycle ≠ .stopping)
    (c : Agent) : s.bystander c :=
  hs.bystander_of_not_stopper fun h => hl (hs.stopping_iff.mpr ⟨c, h⟩)

/-- Before any STOP, nobody is inside one. -/
theorem idle_of_no_stop (hs : s.CallersCoherent) (hstopping : s.lifecycle ≠ .stopping)
    (hstopped : s.lifecycle ≠ .stopped) (c : Agent) : s.cphase c = CPhase.idle :=
  (hs.bystander_of_not_stopping hstopping c).resolve_right fun h =>
    (hs.waiter c h).elim hstopping hstopped

/-- The running flag falls with the stopper's S_SIGNAL (R22, R270). -/
theorem running_iff_of_stopper (hs : s.CallersCoherent) (hc : s.stopper c) :
    s.running = true ↔ (s.cphase c).toNat ≤ 4 := by
  have hl : s.lifecycle = .stopping := hs.stopping_iff.mpr ⟨c, hc⟩
  rw [hs.running_iff, hl]
  constructor
  · rintro (h | ⟨d, hlo, hhi⟩)
    · cases h
    · rwa [← hs.one_stopper d c ⟨hlo, by omega⟩ hc]
  · exact fun h => .inr ⟨c, hc.1, h⟩

theorem running_iff_of_not_stopping (hs : s.CallersCoherent) (hl : s.lifecycle ≠ .stopping) :
    s.running = true ↔ s.lifecycle = .running := by
  rw [hs.running_iff, or_iff_left]
  rintro ⟨c, hlo, hhi⟩
  exact hl (hs.stopping_iff.mpr ⟨c, hlo, by omega⟩)

/-- One agent stops the block, the others are bystanders. -/
theorem of_stopper (hl : s.lifecycle = .stopping) (hc : s.stopper c)
    (hothers : ∀ d, d ≠ c → s.bystander d) (hrun : s.running = true ↔ (s.cphase c).toNat ≤ 4) :
    s.CallersCoherent := by
  have honly (d : Agent) (hd : s.stopper d) : d = c := by
    by_contra hne
    exact (hothers d hne).not_stopper hd
  refine ⟨?_, iff_of_true hl ⟨c, hc⟩, fun a b ha hb => (honly a ha).trans (honly b hb).symm,
    fun _ _ => .inl hl, fun d => ?_⟩
  · rw [hrun, hl]
    constructor
    · exact fun h => .inr ⟨c, hc.1, h⟩
    · rintro (h | ⟨d, hlo, hhi⟩)
      · cases h
      · rwa [← honly d ⟨hlo, by omega⟩]
  · by_cases hd : d = c
    · exact hd ▸ hc.defined
    · exact (hothers d hd).defined

/-- Nobody stops the block. -/
theorem of_no_stopper (hl : s.lifecycle ≠ .stopping) (hall : ∀ c, s.bystander c)
    (hwait : ∀ c, s.cphase c = CPhase.sWait → s.lifecycle = .stopped)
    (hrun : s.running = true ↔ s.lifecycle = .running) : s.CallersCoherent := by
  refine ⟨?_, iff_of_false hl fun ⟨c, hc⟩ => (hall c).not_stopper hc,
    fun c d hc _ => absurd hc (hall c).not_stopper, fun c hc => .inr (hwait c hc),
    fun c => (hall c).defined⟩
  rw [hrun, or_iff_left]
  rintro ⟨c, hlo, hhi⟩
  exact (hall c).not_stopper ⟨hlo, by omega⟩

/-- An agent takes a step of its STOP, or enters one, while the others are bystanders. -/
theorem of_stop_step {v : CPhase} (hset : t.cphases = setPhaseOf s.cphases (Agent.key c) v)
    (hl : t.lifecycle = .stopping) (hv : 1 ≤ v.toNat ∧ v.toNat ≤ 5)
    (hothers : ∀ d, d ≠ c → s.bystander d) (hrun : t.running = true ↔ v.toNat ≤ 4) :
    t.CallersCoherent := by
  have hcphase := cphase_of_cphases_eq_set hset
  have hself : t.cphase c = v := (hcphase c).trans (if_pos rfl)
  refine of_stopper (c := c) hl ?_ (fun d hd => ?_) (by rw [hrun, hself])
  · rwa [State.stopper, hself]
  · rw [State.bystander, hcphase d, if_neg hd]
    exact hothers d hd

/-- The agent that stops the block goes on to a later step of its STOP before S_JOIN (R267-R269). -/
theorem of_stopper_moves (hs : s.CallersCoherent) {v : CPhase}
    (hset : t.cphases = setPhaseOf s.cphases (Agent.key c) v)
    (hc : 1 ≤ (s.cphase c).toNat ∧ (s.cphase c).toNat ≤ 4)
    (hl : t.lifecycle = s.lifecycle) (hrun : t.running = s.running)
    (hv : 1 ≤ v.toNat ∧ v.toNat ≤ 4) : t.CallersCoherent := by
  have hstop : s.stopper c := ⟨hc.1, by omega⟩
  refine of_stop_step hset (hl.trans (hs.stopping_iff.mpr ⟨c, hstop⟩)) ⟨hv.1, by omega⟩
    (fun _ => hs.bystander_of_ne_stopper hstop) ?_
  rw [hrun]
  exact iff_of_true ((hs.running_iff_of_stopper hstop).mpr hc.2) hv.2

/-- An agent waits for the STOP of another one (R266). -/
theorem of_stop_waits (hs : s.CallersCoherent)
    (hset : t.cphases = setPhaseOf s.cphases (Agent.key c) CPhase.sWait)
    (hl : t.lifecycle = s.lifecycle) (hrun : t.running = s.running)
    (hidle : s.cphase c = CPhase.idle) (hstopping : s.lifecycle = .stopping) :
    t.CallersCoherent := by
  have hcphase := cphase_of_cphases_eq_set hset
  obtain ⟨d, hd⟩ := hs.stopping_iff.mp hstopping
  have hdc : d ≠ c := by
    rintro rfl
    exact State.bystander.not_stopper (.inl hidle) hd
  have hsame : t.cphase d = s.cphase d := (hcphase d).trans (if_neg hdc)
  refine of_stopper (c := d) (hl.trans hstopping) ?_ (fun e he => ?_) ?_
  · rwa [State.stopper, hsame]
  · rw [State.bystander, hcphase e]
    split
    · exact .inr rfl
    · exact hs.bystander_of_ne_stopper hd he
  · rw [hrun, hsame]
    exact hs.running_iff_of_stopper hd

/-- An agent leaves STOP in a block that is stopped (R271, R272). -/
theorem of_stop_returns (hset : t.cphases = setPhaseOf s.cphases (Agent.key c) CPhase.idle)
    (hl : t.lifecycle = .stopped) (hothers : ∀ d, d ≠ c → s.bystander d)
    (hrun : ¬ t.running = true) : t.CallersCoherent := by
  have hcphase := cphase_of_cphases_eq_set hset
  refine of_no_stopper (by simp [hl]) (fun d => ?_) (fun _ _ => hl) (by simp [hl, hrun])
  rw [State.bystander, hcphase d]
  split
  · exact .inl rfl
  · exact hothers d ‹_›

end State.CallersCoherent

theorem Effect.keeps_callersCoherent (h : Effect s i t) (hs : s.CallersCoherent) :
    t.CallersCoherent := by
  cases h with
  | startSpawns _ _ _ _ _ hl =>
    have hidle (c : Agent) : s.cphase c = CPhase.idle :=
      hs.idle_of_no_stop (by simp [hl]) (by simp [hl]) c
    exact .of_no_stopper (by simp) (fun c => .inl (hidle c))
      (fun c hc => absurd ((hidle c).symm.trans hc) (by decide)) (by simp)
  | stopWaits _ c _ hc hl => exact hs.of_stop_waits (c := c) rfl rfl rfl (canIssue_idle hc) hl
  | stopBegins _ c _ _ hl =>
    have hstopping : s.lifecycle ≠ .stopping := by simp [hl]
    refine .of_stop_step (c := c) (v := CPhase.sDrain1) rfl rfl (by decide)
      (fun d _ => hs.bystander_of_not_stopping hstopping d) ?_
    exact iff_of_true ((hs.running_iff_of_not_stopping hstopping).mpr hl) (by decide)
  | drained1 c hc =>
    exact hs.of_stopper_moves (c := c) (v := CPhase.sPushoff) rfl (by simp [hc]) rfl rfl (by decide)
  | pushedOff c hc =>
    exact hs.of_stopper_moves (c := c) (v := CPhase.sDrain2) rfl (by simp [hc]) rfl rfl (by decide)
  | drained2 c hc =>
    exact hs.of_stopper_moves (c := c) (v := CPhase.sSignal) rfl (by simp [hc]) rfl rfl (by decide)
  | signalled c hc =>
    have hstop : s.stopper c := by simp [State.stopper, hc]
    exact .of_stop_step (c := c) (v := CPhase.sJoin) rfl (hs.stopping_iff.mpr ⟨c, hstop⟩) (by decide)
      (fun _ => hs.bystander_of_ne_stopper hstop) (by simp)
  | joined c hc =>
    have hstop : s.stopper c := by simp [State.stopper, hc]
    refine .of_stop_returns rfl rfl (fun _ => hs.bystander_of_ne_stopper hstop) ?_
    exact mt (hs.running_iff_of_stopper hstop).mp (by simp [hc])
  | waited c _ _ hl =>
    refine .of_stop_returns rfl hl (fun d _ => hs.bystander_of_not_stopping (by simp [hl]) d) ?_
    exact mt (hs.running_iff_of_not_stopping (by simp [hl])).mp (by simp [hl])
  | _ =>
    exact ⟨hs.running_iff, hs.stopping_iff, hs.one_stopper, hs.waiter, hs.cphase_defined⟩

end

end Sys2Proof.Machine
end

section
/-! SUPPORT. The worker's phase against the lifecycle (R21, R22, R27), the agents that exist (R15, R246), and
the invariant of the machine. -/

namespace Sys2Proof.Machine

section
variable {s t : State} {i : Instr}

/-! ## Phase and lifecycle -/

theorem Effect.keeps_unspawned_iff (h : Effect s i t) (hs : s.LifecycleCoherent) :
    t.phase = Phase.unspawned ↔ t.lifecycle = .uninitialized := by
  have hiff := hs.unspawned_iff
  cases h with
  | startSpawns => simp
  | stopBegins _ _ _ _ hl => simpa [hl] using hiff
  | joined _ _ _ hp => simp [hp]
  | checked hp => cases hr : s.running <;> simpa [hp] using hiff
  | popped _ _ hp | popNothing hp | writeLastChunk _ _ hp | writeFails _ _ hp | readSampled _ hp
  | readFails hp | compared _ hp | dispatchDone hp | dispatchInvoked _ _ _ hp | handlerOk _ _ _ hp
  | handlerExc _ _ _ hp | updated _ hp | slept hp =>
    simpa [hp] using hiff
  | _ => exact hiff

/-- S_JOIN finds the worker exited, and nothing moves an exited worker (R190, R271). -/
theorem Effect.keeps_stopped_exited (h : Effect s i t) (hs : s.LifecycleCoherent)
    (ht : t.lifecycle = .stopped) : t.phase = Phase.exited := by
  cases h with
  | joined _ _ _ hp => exact hp
  | startSpawns | stopBegins => cases ht
  | checked hp | popped _ _ hp | popNothing hp | writeLastChunk _ _ hp | writeFails _ _ hp
  | readSampled _ hp | readFails hp | compared _ hp | dispatchDone hp | dispatchInvoked _ _ _ hp
  | handlerOk _ _ _ hp | handlerExc _ _ _ hp | updated _ hp | slept hp =>
    exact absurd (hp.symm.trans (hs.stopped_exited ht)) (by decide)
  | _ => exact hs.stopped_exited ht

/-- Only a CHECK that finds the running flag down exits (R190). -/
theorem Effect.keeps_exited_not_running (h : Effect s i t) (hs : s.LifecycleCoherent)
    (ht : t.phase = Phase.exited) : t.running = false := by
  cases h with
  | checked =>
    cases hr : s.running
    · rfl
    · simp [hr] at ht
  | signalled => rfl
  | startSpawns | popped | popNothing | writeLastChunk | writeFails | readSampled | readFails
  | compared | dispatchDone | dispatchInvoked | handlerOk | handlerExc | updated | slept =>
    simp at ht
  | _ => exact hs.exited_not_running ht

/-! ## Presence -/

/-- An agent that may issue a command exists (R15, R91). -/
theorem canIssue_present {c : Agent} (h : s.canIssue c = true) : s.present c = true := by
  simp only [State.canIssue, Bool.and_eq_true] at h
  exact h.2

/-- An agent that takes a step of STOP exists, and those already inside STOP do. -/
theorem Effect.present_of_stop_step {c d : Agent} (h : Effect s i t) (hs : s.LifecycleCoherent)
    (howner : cphaseOwner i = some c) (hsame : t.present d = s.present d)
    (hc : s.present c = true) (hd : t.cphase d ≠ CPhase.idle) : t.present d = true := by
  rw [hsame]
  by_cases hdc : d = c
  · rwa [hdc]
  · rw [h.cphase_eq fun hd' => hdc (Option.some.inj (hd'.symm.trans howner))] at hd
    exact hs.blocked_present d hd

/-- Whatever becomes of a handler that is not inside STOP, the agents inside STOP stay present (R246,
R332). -/
theorem present_of_hctx_idle {d : Agent} (hs : s.LifecycleCoherent) (hparams : t.params = s.params)
    (hidle : s.cphase .hctx = CPhase.idle) (hd : s.cphase d ≠ CPhase.idle) : t.present d = true := by
  have hpresent := hs.blocked_present d hd
  cases d with
  | host => rfl
  | hctx => exact absurd hidle hd
  | caller k => simpa [hparams] using hpresent

theorem Effect.keeps_blocked_present (h : Effect s i t) (hs : s.LifecycleCoherent) (d : Agent)
    (hd : t.cphase d ≠ CPhase.idle) : t.present d = true := by
  have heffect := h
  cases h with
  | startSpawns _ _ _ _ _ hl =>
    have hidle := hs.callers.idle_of_no_stop (by simp [hl]) (by simp [hl]) .hctx
    exact present_of_hctx_idle hs rfl hidle hd
  | handlerOk _ _ _ _ _ hidle | handlerExc _ _ _ _ _ hidle =>
    exact present_of_hctx_idle hs rfl hidle hd
  | dispatchInvoked =>
    cases d with
    | hctx => rfl
    | host | caller => exact hs.blocked_present _ hd
  | stopWaits _ _ hstop hc | stopBegins _ _ hstop hc =>
    exact heffect.present_of_stop_step hs hstop.cphaseOwner_eq rfl (canIssue_present hc) hd
  | drained1 _ _ hc | pushedOff _ _ hc | drained2 _ _ hc | signalled _ _ hc | joined _ _ hc
  | waited _ _ hc => exact heffect.present_of_stop_step hs rfl rfl hc hd
  | _ => exact hs.blocked_present d hd

/-! ## Every operation -/

theorem Effect.keeps_lifecycleCoherent (h : Effect s i t) (hs : s.LifecycleCoherent) :
    t.LifecycleCoherent := by
  obtain ⟨hrunning, hstopping, hone, hwaiter, hdefined⟩ := h.keeps_callersCoherent hs.callers
  exact ⟨h.keeps_unspawned_iff hs, h.keeps_stopped_exited hs, h.keeps_exited_not_running hs,
    hrunning, hstopping, hone, hwaiter, hdefined, h.keeps_blocked_present hs⟩

theorem Effect.keeps_coherent (h : Effect s i t) (hs : s.Coherent) (hgood : i.wellFormed = true) :
    t.Coherent :=
  ⟨h.keeps_workerCoherent hs.worker hgood, h.keeps_lifecycleCoherent hs.lifecycle⟩

/-! ## Packets that are no operation -/

/-- The mark, the script and the count of choices are no part of the invariant. -/
theorem State.Coherent.congr_carriers (hs : s.Coherent) (mark : Option RefusalName)
    (script : List Stimulus) (choices : Nat) :
    { s with refused := mark, script := script, choices := choices }.Coherent :=
  ⟨{ hs.worker with }, { hs.lifecycle with }⟩

/-- An error of the decoder marks the state, is a reserved phase, or changes nothing. -/
theorem undecoded_cases {e : DecodeError} (h : undecoded e s = .next t) :
    (∃ mark, t = { s with refused := mark }) ∨ e = .reservedPhase ∨ e = .reservedCPhase := by
  cases e with
  | malformedFrame => cases h
  | reservedPhase => exact .inr (.inl rfl)
  | reservedCPhase => exact .inr (.inr rfl)
  | undefinedCommand | undefinedBusOp | undefinedEnvOp | noQueueOp | noWorkerStep | noCallerStep
  | wrongIssuer => exact .inl ⟨_, (Host.Outcome.next.inj h).symm⟩

/-- A phase that the rules define has a row, or the worker has no step (R27). -/
theorem decodePh_error {phase : Phase} {x : Operands} {e : DecodeError}
    (hphase : phase.toNat ≤ 9 ∨ phase = Phase.unspawned) (h : decodePh phase x = .error e) :
    e = .noWorkerStep := by
  obtain hle | rfl := hphase
  · unfold decodePh at h
    generalize phase.toNat = n at h hle
    interval_cases n <;> cases h
    rfl
  · cases h
    rfl

/-- A `cphase` that the rules define has a row, or the agent has no step (R33). -/
theorem decodeCph_error {v : CPhase} {c : Agent} {e : DecodeError} (hv : v ≠ 7#3)
    (h : decodeCph v c = .error e) : e = .noCallerStep := by
  have hle : v.toNat ≤ 6 := by
    clear h
    decide +revert
  unfold decodeCph at h
  generalize v.toNat = n at h hle
  interval_cases n <;> cases h
  rfl

/-- The reserved phases are the PH and the CPH table's alone, and the checks after the tables find none. -/
theorem not_reserved_of_decode_error {p : Packet} {e : DecodeError} (h : decode p = .error e)
    (hph : ∀ phase, p.sel = .ph phase → phase.toNat ≤ 9 ∨ phase = Phase.unspawned)
    (hcph : ∀ v, p.sel = .cph v → v ≠ 7#3) : e ≠ .reservedPhase ∧ e ≠ .reservedCPhase := by
  cases hrow : decodeFields p with
  | ok i =>
    rw [decode_of_row hrow] at h
    split at h
    · cases h
    · cases h
      unfold illFormedError
      split <;> simp
  | error e' =>
    rw [decode_of_no_row hrow] at h
    obtain rfl := Except.error.inj h
    obtain ⟨sel, c, x⟩ := p
    cases sel with
    | ph phase => simp [decodePh_error (hph phase rfl) hrow]
    | cph v => simp [decodeCph_error (hcph v rfl) hrow]
    | cmd | qop | bop | env =>
      simp only [decodeFields, decodeCmd, decodeQop, decodeBop, decodeEnv] at hrow
      (repeat' split at hrow) <;> cases hrow <;> simp

theorem phase_of_packet_ph {x : Stimulus} {phase : Phase} (h : (packetOf x s).sel = .ph phase) :
    s.phase = phase := by
  cases x with
  | agent a =>
    cases a with
    | workerStep => exact Selector.ph.inj h
    | command | callerStep | environment => cases h
  | queuePort | busPort => cases h

theorem cphase_of_packet_cph {x : Stimulus} {v : CPhase} (h : (packetOf x s).sel = .cph v) :
    ∃ c, s.cphase c = v := by
  cases x with
  | agent a =>
    cases a with
    | callerStep c => exact ⟨c, Selector.cph.inj h⟩
    | command | workerStep | environment => cases h
  | queuePort | busPort => cases h

/-- In a coherent state no agent is in a reserved phase (R200). -/
theorem State.Coherent.not_reserved (hs : s.Coherent) {x : Stimulus} {e : DecodeError}
    (h : decode (packetOf x s) = .error e) : e ≠ .reservedPhase ∧ e ≠ .reservedCPhase := by
  refine not_reserved_of_decode_error h (fun phase hsel => ?_) (fun v hsel => ?_)
  · rw [← phase_of_packet_ph hsel]
    exact hs.worker.phase_defined
  · obtain ⟨c, rfl⟩ := cphase_of_packet_cph hsel
    exact hs.lifecycle.cphase_defined c

/-! ## Every step -/

theorem takes_keeps_coherent {x : Stimulus} (hs : s.Coherent) (h : s.takes x = .next t) :
    t.Coherent := by
  unfold State.takes at h
  split at h
  · rename_i i hd
    exact (exec_effect h).keeps_coherent hs (decode_eq_ok_iff.mp hd).2
  · rename_i e hd
    obtain ⟨mark, rfl⟩ | he := undecoded_cases h
    · exact hs.congr_carriers mark s.script s.choices
    · obtain ⟨hph, hcph⟩ := hs.not_reserved hd
      exact absurd he (not_or_intro hph hcph)

end

/-- Settles O52: a step takes one stimulus, past which the script has moved. -/
theorem stepKeepsCoherent : Obligations.StepKeepsCoherent := by
  intro s t hs h
  rw [step_eq_takes] at h
  exact takes_keeps_coherent (hs.congr_carriers s.refused s.script.tail (s.choices + 1)) h

end Sys2Proof.Machine
end

section
/-! SUPPORT. The comparator's chain of snapshots (spec/43_poll_dispatch.md R204), and what a worker step that
is scripted runs. -/

namespace Sys2Proof.Machine

/-! ## The bytes read from Input -/

@[simp] theorem inputReads_append (l m : List BusRecord) :
    inputReads (l ++ m) = inputReads l ++ inputReads m := List.filterMap_append

@[simp] theorem inputReads_read_ok (dev : Nat) (reg v : Byte) :
    inputReads [.read dev reg (.ok v)] = [v] := rfl

@[simp] theorem inputReads_read_fail (dev : Nat) (reg : Byte) :
    inputReads [.read dev reg .fail] = [] := rfl

@[simp] theorem inputReads_block (dev : Nat) (reg : Byte) (bytes : List Byte) (ok : Bool) :
    inputReads [.block dev reg bytes ok] = [] := rfl

/-- START's configuration writes read nothing (R260). -/
theorem inputReads_of_writes {dev : Nat} {l : List BusRecord}
    (h : ∀ r ∈ l, ∃ reg v ok, r = .write dev reg v ok) : inputReads l = [] := by
  refine List.filterMap_eq_nil_iff.mpr fun r hr => ?_
  obtain ⟨reg, v, ok, rfl⟩ := h r hr
  rfl

section
variable {s t : State} {i : Instr}

/-! ## The chain -/

namespace State.SnapshotChain

/-- Without a snapshot of this cycle the last byte read is the last snapshot. -/
theorem last_of_no_snapshot (h : s.SnapshotChain) (hl : s.lifecycle ≠ .uninitialized)
    (hcur : s.curSnapshot = none) : s.lastSnapshot = (inputReads s.busLog).getLastD 0xFF#8 := by
  simpa [hcur] using h.2 hl

/-- This cycle's snapshot is the last byte read, and the last snapshot the one read before. -/
theorem last_of_snapshot (h : s.SnapshotChain) (hl : s.lifecycle ≠ .uninitialized) {v : Byte}
    (hcur : s.curSnapshot = some v) :
    ∃ rs, inputReads s.busLog = rs ++ [v] ∧ s.lastSnapshot = rs.getLastD 0xFF#8 := by
  simpa [hcur] using h.2 hl

theorem of_no_snapshot (hl : s.lifecycle ≠ .uninitialized) (hcur : s.curSnapshot = none)
    (hlast : s.lastSnapshot = (inputReads s.busLog).getLastD 0xFF#8) : s.SnapshotChain :=
  ⟨fun h => absurd h hl, fun _ => by simpa [hcur] using hlast⟩

theorem of_snapshot {v : Byte} {rs : List Byte} (hl : s.lifecycle ≠ .uninitialized)
    (hcur : s.curSnapshot = some v) (hreads : inputReads s.busLog = rs ++ [v])
    (hlast : s.lastSnapshot = rs.getLastD 0xFF#8) : s.SnapshotChain :=
  ⟨fun h => absurd h hl, fun _ => by
    rw [hcur]
    exact ⟨rs, hreads, hlast⟩⟩

/-- The chain speaks of the snapshots, the bytes read, and whether START has been made. -/
theorem congr (h : s.SnapshotChain)
    (hl : t.lifecycle = .uninitialized ↔ s.lifecycle = .uninitialized)
    (hcur : t.curSnapshot = s.curSnapshot) (hlast : t.lastSnapshot = s.lastSnapshot)
    (hreads : inputReads t.busLog = inputReads s.busLog) : t.SnapshotChain := by
  unfold State.SnapshotChain
  rw [ne_eq, hl, hcur, hlast, hreads]
  exact h

end State.SnapshotChain

/-- A worker that takes a step has been started (R261). -/
theorem State.LifecycleCoherent.started {p : Phase} (hs : s.LifecycleCoherent) (hp : s.phase = p)
    (hne : p ≠ Phase.unspawned) : s.lifecycle ≠ .uninitialized := fun hl =>
  hne (hp.symm.trans (hs.unspawned_iff.mpr hl))

/-- Every operation of an agent keeps the chain: READ makes a new link, UPDATE moves on to it. -/
theorem Effect.keeps_snapshotChain (h : Effect s i t) (hs : s.Coherent) (hchain : s.SnapshotChain)
    (hport : (encode i).sel.isPort = false) : t.SnapshotChain := by
  cases h with
  | startFails _ _ _ _ _ _ _ hr =>
    exact hchain.congr Iff.rfl rfl rfl (by simp [inputReads_of_writes hr])
  | startSpawns _ _ _ _ _ hl hr =>
    exact .of_no_snapshot nofun rfl (by simp [inputReads_of_writes hr, hchain.1 hl])
  | stopBegins _ _ _ _ hl => exact hchain.congr (by simp [hl]) rfl rfl rfl
  | joined _ _ _ hp =>
    exact hchain.congr (by simp [hs.lifecycle.started hp (by decide)]) rfl rfl rfl
  | writeNextChunk | writeLastChunk | writeFails | readFails =>
    exact hchain.congr Iff.rfl rfl rfl (by simp)
  | readSampled v hp =>
    have hstarted := hs.lifecycle.started hp (by decide)
    have hnone : s.curSnapshot = none := by simpa [hp] using hs.worker.snapshot_iff
    exact .of_snapshot hstarted rfl (by simp) (hchain.last_of_no_snapshot hstarted hnone)
  | updated v hp hcur =>
    have hstarted := hs.lifecycle.started hp (by decide)
    obtain ⟨rs, hreads, -⟩ := hchain.last_of_snapshot hstarted hcur
    exact .of_no_snapshot hstarted rfl (by simp [hreads])
  | portRead | portWrote | portWroteBlock => cases hport
  | _ => exact hchain

/-! ## Worker steps -/

theorem takes_of_decode_ok {x : Stimulus} (h : decode (packetOf x s) = .ok i) :
    s.takes x = exec i s := by
  rw [State.takes, h]

/-- A worker step runs the row of its phase (R93). -/
theorem takes_workerStep {p : Phase} {ret : Option HandlerReturn} (hp : s.phase = p)
    (hrow : decode ⟨.ph p, .host, { ret := ret }⟩ = .ok i) :
    s.takes (.agent (.workerStep ret)) = exec i s := by
  subst hp
  exact takes_of_decode_ok hrow

/-- In CMP a coherent worker compares two consecutive bytes read. -/
theorem cmp_events_of_chain (hs : s.Coherent) (hchain : s.SnapshotChain) (hp : s.phase = Phase.cmp)
    (h : s.takes (.agent (.workerStep none)) = .next t) :
    ∃ rs v, inputReads s.busLog = rs ++ [v] ∧ t.events = edge (rs.getLastD 0xFF#8) v := by
  have hsome : s.curSnapshot.isSome = true := hs.worker.snapshot_iff.mpr (by simp [hp])
  obtain ⟨v, hcur⟩ := Option.isSome_iff_exists.mp hsome
  obtain ⟨rs, hreads, hlast⟩ :=
    hchain.last_of_snapshot (hs.lifecycle.started hp (by decide)) hcur
  rw [takes_workerStep (i := .cmp) hp rfl, exec_cmp_of_snapshot hp hcur, hlast] at h
  obtain rfl := Host.Outcome.next.inj h
  exact ⟨rs, v, hreads, rfl⟩

end

/-- Settles O54: an agent's packet runs no port operation, and CMP finds the chain's snapshot. -/
theorem stepKeepsSnapshotChain : Obligations.StepKeepsSnapshotChain := by
  intro s t a hs hchain h
  constructor
  · obtain ⟨i, hd, he⟩ | ⟨bits, mark, rfl⟩ := takes_effect h
    · exact he.keeps_snapshotChain hs hchain (agentPacket_not_port hd)
    · exact hchain
  · rintro rfl hp
    exact cmp_events_of_chain hs hchain hp h

end Sys2Proof.Machine
end

section
/-! SUPPORT. A frame that is written whole, chunk after chunk (spec/43_poll_dispatch.md R192,
spec/20_memory.md R71). -/

namespace Sys2Proof.Machine

section
variable {s : State} {f : Frame} {k : Nat}

/-! ## The answers to come -/

theorem answerAt_zero (s : State) : s.answerAt 0 = s.nextAnswer := by
  cases h : s.answers <;> simp [State.answerAt, State.nextAnswer, h]

/-- Past one answer, the `j`-th to come is the one after it. -/
theorem answerAt_of_used {u : State} (ha : u.answers = s.answers.tail) (hd : u.draws = s.draws + 1)
    (j : Nat) : u.answerAt j = s.answerAt (j + 1) := by
  rw [State.answerAt, State.answerAt, ha, hd, List.getElem?_tail, Nat.add_assoc, Nat.add_comm 1 j]

/-! ## The chunks to come -/

/-- Chunk `k` and what comes after it are what comes after the first `k` chunks (R125). -/
theorem chunk_append_drop (c : Nat) (f : Frame) (k : Nat) :
    chunk c f k ++ f.drop ((k + 1) * c) = f.drop (k * c) := by
  rw [chunk, Nat.succ_mul, ← List.drop_drop, List.take_append_drop]

theorem wire_block_ok (dev : Nat) (reg : Byte) (bytes : List Byte) :
    wire [.block dev reg bytes true] = bytes := List.append_nil bytes

/-- After the last chunk nothing comes. -/
theorem drop_nchunks (s : State) (f : Frame) : f.drop (nchunks s.maxChunk f * s.maxChunk) = [] :=
  List.drop_eq_nil_of_le (length_le_nchunks_mul f (one_le_maxChunk s))

/-- The worker has written the first `k` chunks of the frame: it is in WRITE at chunk `k`, or, if there is
none, in READ with no frame in flight (R192). -/
structure State.AtChunk (s : State) (f : Frame) (k : Nat) : Prop where
  phase : s.phase = if k < nchunks s.maxChunk f then Phase.write else Phase.read
  inflight : s.inflight = if k < nchunks s.maxChunk f then some (f, k) else none

/-- A scripted worker step at chunk `k` that is answered `ok` writes it and goes on to the next. -/
theorem step_writes_chunk {more : List Stimulus} (hat : s.AtChunk f k)
    (hk : k < nchunks s.maxChunk f) (hok : Answer.isOk s.nextAnswer = true)
    (hscript : s.script = .agent (.workerStep none) :: more) :
    ∃ u, step s = .next u ∧ u.AtChunk f (k + 1) ∧ u.params = s.params ∧
      wire u.busLog = wire s.busLog ++ chunk s.maxChunk f k ∧
      u.queue = s.queue ∧ u.errLog = s.errLog ∧ u.script = more ∧
      ∀ j, u.answerAt j = s.answerAt (j + 1) := by
  have hp : s.phase = Phase.write := hat.phase.trans (if_pos hk)
  have hi : s.inflight = some (f, k) := hat.inflight.trans (if_pos hk)
  have htakes : step s = exec .write s.advance := by
    rw [step_eq_takes, nextStimulus_of_script hscript]
    exact takes_workerStep (s := s.advance) hp rfl
  refine ⟨_, htakes.trans (exec_write_ok (s := s.advance) hp hi hk hok), ⟨rfl, rfl⟩, rfl, ?_, rfl, rfl,
    ?_, answerAt_of_used rfl rfl⟩
  · exact (wire_append _ _).trans (congrArg _ (wire_block_ok _ _ _))
  · simp [State.advance, hscript]

theorem run_writes_frame {rest : List Stimulus} (n : Nat) (hat : s.AtChunk f k)
    (hn : k + n = nchunks s.maxChunk f)
    (hok : ∀ j, j < n → Answer.isOk (s.answerAt j) = true)
    (hscript : s.script = List.replicate n (.agent (.workerStep none)) ++ rest) :
    ∃ t, Host.Core.run Sys2Proof.core n s = .next t ∧
      t.phase = Phase.read ∧ t.inflight = none ∧
      wire t.busLog = wire s.busLog ++ f.drop (k * s.maxChunk) ∧
      t.queue = s.queue ∧ t.errLog = s.errLog ∧ t.script = rest := by
  induction n generalizing s k with
  | zero =>
    obtain rfl : k = nchunks s.maxChunk f := hn
    refine ⟨s, rfl, ?_, ?_, ?_, rfl, rfl, hscript⟩
    · simpa using hat.phase
    · simpa using hat.inflight
    · rw [drop_nchunks, List.append_nil]
  | succ n ih =>
    have hfirst := hok 0 n.succ_pos
    rw [answerAt_zero] at hfirst
    obtain ⟨u, hstep, hat', hparams, hwire, hqueue, herr, hscript', hanswers⟩ :=
      step_writes_chunk hat (by omega) hfirst hscript
    have hchunk : u.maxChunk = s.maxChunk := congrArg (·.chunkExtra + 1) hparams
    obtain ⟨t, hrun, hphase, hinflight, hwire', hqueue', herr', hrest⟩ :=
      ih hat' (by rw [hchunk]; omega) (fun j hj => by rw [hanswers]; exact hok _ (by omega)) hscript'
    refine ⟨t, (run_next hstep).trans hrun, hphase, hinflight, ?_, hqueue'.trans hqueue,
      herr'.trans herr, hrest⟩
    rw [hwire', hwire, hchunk, List.append_assoc, chunk_append_drop]

end

/-- Settles O60, by induction on the number of chunks left. -/
theorem workerWritesWholeFrame : Obligations.WorkerWritesWholeFrame := by
  intro s f k rest hp hi hk hok hscript
  have hat : s.AtChunk f k := ⟨by rw [hp, if_pos hk], by rw [hi, if_pos hk]⟩
  exact run_writes_frame _ hat (by omega) hok hscript

end Sys2Proof.Machine
end

section
/-! SUPPORT. The handler registry (spec/44_registry.md): registration (R240, R241), PUBLISH (R243), and the
slots no step empties (R247). -/

namespace Sys2Proof.Machine

section
variable {s t : State} {b : ButtonId} {k : Kind} {h : HandlerRef} {rest : List Registration}

/-! ## PUBLISH -/

theorem publishBody_of_cons (hp : s.pendingReg = ⟨b, k, h⟩ :: rest) :
    publishBody s = { s.setHandler b k h with pendingReg := rest } := by
  rw [publishBody, hp]

theorem publishBody_of_nil (hp : s.pendingReg = []) : publishBody s = s := by
  rw [publishBody, hp]

theorem publishBody_pendingReg (s : State) : (publishBody s).pendingReg = s.pendingReg.tail := by
  cases hp : s.pendingReg with
  | nil => rw [publishBody_of_nil hp, hp, List.tail_nil]
  | cons reg rest => rw [publishBody_of_cons hp, List.tail_cons]

/-- Every slot after the oldest registration has been published (R72, R243). -/
theorem handler_publishBody (hp : s.pendingReg = ⟨b, k, h⟩ :: rest) (d : ButtonId) (j : Kind) :
    (publishBody s).handler d j = if d = b ∧ j = k then some h else s.handler d j := by
  rw [publishBody_of_cons hp]
  exact handler_setHandler s b d k j h

/-! ## Slots -/

/-- PUBLISH, the one operation that writes the table, puts a handler where it writes (R24, R247). -/
theorem Effect.keeps_slot_filled {i : Instr} (he : Effect s i t) (hs : s.handler b k ≠ none) :
    t.handler b k ≠ none := by
  cases he with
  | published d j h rest hp =>
    change (s.setHandler d j h).handler b k ≠ none
    rw [handler_setHandler]
    split
    · exact Option.some_ne_none h
    · exact hs
  | _ => exact hs

end

/-! ## The statements -/

/-- Settles O24: the lists are those of `registrations`, which `registerBody` appends. -/
theorem registrationAppends : Obligations.RegistrationAppends := fun _ c sel h hissue =>
  ⟨command_of_canIssue hissue (registerBody c .press sel h),
    command_of_canIssue hissue (registerBody c .release sel h)⟩

/-- Settles O43. -/
theorem publishReplacesSlot : Obligations.PublishReplacesSlot := by
  intro s
  refine ⟨fun b k h rest hp => ⟨publishBody s, rfl, ?_, ?_, fun d j hother => ?_, ?_⟩, fun hp => ?_⟩
  · rw [publishBody_pendingReg, hp, List.tail_cons]
  · rw [handler_publishBody hp, if_pos ⟨rfl, rfl⟩]
  · rw [handler_publishBody hp, if_neg (not_and_or.mpr hother)]
  · rw [publishBody_of_cons hp]
    rfl
  · exact congrArg Host.Outcome.next (publishBody_of_nil hp)

/-- Settles O45: an operation keeps the slot filled, and a packet that is none leaves the table alone. -/
theorem slotsAreNeverEmptied : Obligations.SlotsAreNeverEmptied := by
  intro s t b k hstep hs
  obtain ⟨i, -, he⟩ | ⟨e, bits, mark, -, rfl, -, -⟩ := step_effect hstep
  · exact he.keeps_slot_filled hs
  · exact hs

end Sys2Proof.Machine
end

section
/-! SUPPORT. What weak fairness gives (R243, R335): PUBLISH takes every registration in its turn, and a worker
that waits for no handler takes its next step. -/

namespace Sys2Proof.Machine

section
variable {σ : Nat → State} {x : Nat → Stimulus} {n : Nat}

/-! ## Weak fairness -/

/-- The rule of weak fairness: what enables a step, and what every step of another sort keeps, holds when
a step of that sort is taken. -/
theorem WeaklyFair.taken_while {a : AgentStep} {sort : AgentStep → Bool} (hfair : WeaklyFair σ x a sort)
    {P : State → Prop} (hn : P (σ n)) (hen : ∀ s, P s → s.enables a)
    (hkeep : ∀ m, Stimulus.isStep sort (x m) = false → P (σ m) → P (σ (m + 1))) :
    ∃ m, n ≤ m ∧ Stimulus.isStep sort (x m) = true ∧ P (σ m) := by
  by_contra hnever
  have hother (m : Nat) (hm : n ≤ m) (hP : P (σ m)) : Stimulus.isStep sort (x m) = false :=
    Bool.eq_false_iff.mpr fun htaken => hnever ⟨m, hm, htaken, hP⟩
  have halways (m : Nat) (hm : n ≤ m) : P (σ m) := by
    induction m, hm using Nat.le_induction with
    | base => exact hn
    | succ m hm ih => exact hkeep m (hother m hm ih) ih
  obtain ⟨m, hm, htaken⟩ := hfair n fun m hm => hen _ (halways m hm)
  exact hnever ⟨m, hm, htaken, halways m hm⟩

end

section
variable {s t : State} {i : Instr} {x : Stimulus}

/-- A step that leaves another state is enabled. -/
theorem enables_of_takes_ne {a : AgentStep} (h : s.takes (.agent a) = .next t) (hne : t ≠ s) :
    s.enables a := fun hhold => hne (Host.Outcome.next.inj (h.symm.trans hhold))

/-! ## The steps between two of one sort -/

/-- Only PUBLISH has the ENV selector 0b00 (R92). -/
theorem sel_ne_env_of_not_publish (h : Stimulus.isStep AgentStep.isPublish x = false) :
    (packetOf x s).sel ≠ .env 0b00#2 := by
  intro hsel
  cases x with
  | agent a =>
    cases a with
    | environment env =>
      obtain rfl : env = 0b00#2 := Selector.env.inj hsel
      cases h
    | command | callerStep | workerStep => cases hsel
  | queuePort | busPort => cases hsel

/-- Only the worker's steps have PH selectors (R93). -/
theorem sel_ne_ph_of_not_worker (h : Stimulus.isStep AgentStep.isWorker x = false) (p : Phase) :
    (packetOf x s).sel ≠ .ph p := by
  intro hsel
  cases x with
  | agent a =>
    cases a with
    | workerStep => cases h
    | command | callerStep | environment => cases hsel
  | queuePort | busPort => cases hsel

theorem eq_environment_of_isPublish (h : Stimulus.isStep AgentStep.isPublish x = true) :
    x = .agent (.environment 0b00#2) := by
  cases x with
  | agent a =>
    cases a with
    | environment env => rw [show env = 0b00#2 from beq_iff_eq.mp h]
    | command | callerStep | workerStep => cases h
  | queuePort | busPort => cases h

/-! ## The registrations -/

/-- Every operation but PUBLISH leaves the registrations where they are in the order, and may add to them
(R25). -/
theorem Effect.pendingReg_prefix (h : Effect s i t) (hi : (encode i).sel ≠ .env 0b00#2) :
    s.pendingReg <+: t.pendingReg := by
  cases h with
  | pressRegistered | releaseRegistered => exact List.prefix_append _ _
  | published => exact absurd rfl hi
  | _ => exact List.prefix_rfl

theorem takes_pendingReg_prefix (h : s.takes x = .next t)
    (hx : Stimulus.isStep AgentStep.isPublish x = false) : s.pendingReg <+: t.pendingReg := by
  obtain ⟨i, hd, he⟩ | ⟨bits, mark, rfl⟩ := takes_effect h
  · exact he.pendingReg_prefix (decode_selector hd ▸ sel_ne_env_of_not_publish hx)
  · exact List.prefix_rfl

/-- PUBLISH is enabled while there is a registration (R243). -/
theorem enables_publish (h : s.pendingReg ≠ []) : s.enables (.environment 0b00#2) := by
  refine enables_of_takes_ne (t := publishBody s) rfl fun hsame => ?_
  have hlen := congrArg (List.length ∘ State.pendingReg) hsame
  have hpos := List.length_pos_iff.mpr h
  simp only [Function.comp, publishBody_pendingReg, List.length_tail] at hlen
  omega

/-! ## The worker's next step -/

/-- The worker of a coherent state is in phase `p`, where it has a step to take by itself: it is alive and
waits for no handler. -/
structure State.WorkerDue (p : Phase) (s : State) : Prop where
  coherent : s.Coherent
  alive : s.alive = true
  not_waiting : s.phase ≠ Phase.hwait
  phase : s.phase = p

/-- The phases of a worker that is due. -/
theorem State.WorkerDue.phase_cases {p : Phase} (h : s.WorkerDue p) :
    s.phase = Phase.check ∨ s.phase = Phase.pop ∨ s.phase = Phase.write ∨ s.phase = Phase.read ∨
      s.phase = Phase.cmp ∨ s.phase = Phase.dispatch ∨ s.phase = Phase.update ∨
      s.phase = Phase.sleep := by
  have hdefined := h.coherent.worker.phase_defined
  have halive := h.alive
  have hwait := h.not_waiting
  simp only [State.alive] at halive
  generalize s.phase = q at hdefined halive hwait
  clear h
  decide +revert

/-- A row of the worker's own table that moves the state is enabled in its phase. -/
theorem enables_workerStep {p : Phase} {f : State → State} (hp : s.phase = p)
    (hrow : decode ⟨.ph p, .host, {}⟩ = .ok i) (hexec : exec i s = workerStep p f s)
    (hmoves : f s ≠ s) : s.enables (.workerStep none) :=
  enables_of_takes_ne ((takes_workerStep hp hrow).trans (hexec.trans (workerStep_of_phase hp f))) hmoves

theorem popBody_phase_ne (s : State) : (popBody s).phase ≠ Phase.pop := by
  unfold popBody
  split
  · simp
  · split <;> simp

/-- Whatever the bus answers, WRITE uses the answer up (R192, R292). -/
theorem writeChunk_draws (f : Frame) (k : Nat) (s : State) :
    (writeChunk f k s).draws = s.draws + 1 := by
  unfold writeChunk
  split
  · split <;> simp
  · simp

theorem readBody_phase_ne (s : State) : (readBody s).phase ≠ Phase.read := by
  unfold readBody
  split <;> simp

/-- DISPATCH takes an event or, when there is none, goes on (R196). -/
theorem dispatchBody_ne (hp : s.phase = Phase.dispatch) : dispatchBody s ≠ s := by
  intro hsame
  unfold dispatchBody at hsame
  split at hsame
  · simpa [hp] using congrArg State.phase hsame
  · rename_i e rest he
    split at hsame <;> simpa [he] using congrArg State.events hsame

/-- From CMP to UPDATE there is a snapshot (R29). -/
theorem State.WorkerCoherent.exists_snapshot (hs : s.WorkerCoherent)
    (hp : 4 ≤ s.phase.toNat ∧ s.phase.toNat ≤ 7) : ∃ v, s.curSnapshot = some v :=
  Option.isSome_iff_exists.mp (hs.snapshot_iff.mpr hp)

/-- A worker that is due has an enabled step: each phase finds what it needs (R27-R32). -/
theorem State.WorkerDue.enables {p : Phase} (h : s.WorkerDue p) : s.enables (.workerStep none) := by
  have hw := h.coherent.worker
  obtain hp | hp | hp | hp | hp | hp | hp | hp := h.phase_cases
  · refine enables_workerStep (i := .check) hp rfl (exec_check s) fun hsame => ?_
    have hphase := congrArg State.phase hsame
    cases hr : s.running <;> simp [hp, hr] at hphase
  · exact enables_workerStep (i := .pop) hp rfl rfl fun hsame =>
      popBody_phase_ne s ((congrArg State.phase hsame).trans hp)
  · refine enables_workerStep (i := .write) (f := writeBody) hp rfl rfl fun hsame => ?_
    obtain ⟨⟨f, k⟩, hi⟩ := Option.isSome_iff_exists.mp (hw.inflight_iff.mpr hp)
    rw [writeBody_of_inflight hi (hw.inflight_index f k hi).2] at hsame
    exact Nat.succ_ne_self _ ((writeChunk_draws f k s).symm.trans (congrArg State.draws hsame))
  · exact enables_workerStep (i := .read) hp rfl rfl fun hsame =>
      readBody_phase_ne s ((congrArg State.phase hsame).trans hp)
  · obtain ⟨v, hv⟩ := hw.exists_snapshot (by simp [hp])
    refine enables_workerStep (i := .cmp) (f := cmpBody) hp rfl rfl fun hsame => ?_
    simpa [cmpBody, hv, hp] using congrArg State.phase hsame
  · exact enables_workerStep (i := .dispatch) hp rfl rfl (dispatchBody_ne hp)
  · obtain ⟨v, hv⟩ := hw.exists_snapshot (by simp [hp])
    refine enables_workerStep (i := .update) (f := updateBody) hp rfl rfl fun hsame => ?_
    simpa [updateBody, hv, hp] using congrArg State.phase hsame
  · refine enables_workerStep (i := .sleep) hp rfl (exec_sleep s) fun hsame => ?_
    simpa [hp] using congrArg State.phase hsame

/-- But for its own steps, START and a handler's return, nothing moves the worker's phase; a worker that is
due has been started and waits for no handler (R27). -/
theorem Effect.phase_of_workerDue {p : Phase} (h : Effect s i t) (hdue : s.WorkerDue p)
    (hi : ∀ q, (encode i).sel ≠ .ph q) : t.phase = s.phase := by
  cases h with
  | startSpawns _ _ _ _ _ hl =>
    have hun := hdue.coherent.lifecycle.unspawned_iff.mpr hl
    simpa [State.alive, hun] using hdue.alive
  | handlerOk _ _ _ hp | handlerExc _ _ _ hp => exact absurd hp hdue.not_waiting
  | checked | popped | popNothing | writeLastChunk | writeFails | readSampled | readFails | compared
  | dispatchDone | dispatchInvoked | updated | slept => exact absurd rfl (hi _)
  | _ => rfl

theorem takes_keeps_workerDue {p : Phase} (hdue : s.WorkerDue p) (h : s.takes x = .next t)
    (hx : Stimulus.isStep AgentStep.isWorker x = false) : t.WorkerDue p := by
  have hphase : t.phase = s.phase := by
    obtain ⟨i, hd, he⟩ | ⟨bits, mark, rfl⟩ := takes_effect h
    · exact he.phase_of_workerDue hdue (decode_selector hd ▸ sel_ne_ph_of_not_worker hx)
    · rfl
  exact ⟨takes_keeps_coherent hdue.coherent h, by simpa [State.alive, hphase] using hdue.alive,
    hphase ▸ hdue.not_waiting, hphase.trans hdue.phase⟩

end

section
variable {σ : Nat → State} {x : Nat → Stimulus}

/-! ## Progress -/

/-- Registrations at the front of the list are still there when PUBLISH is taken next. -/
theorem FairRun.next_publish (h : FairRun σ x) {n : Nat} {front : List Registration} (hne : front ≠ [])
    (hn : front <+: (σ n).pendingReg) :
    ∃ m, n ≤ m ∧ Stimulus.isStep AgentStep.isPublish (x m) = true ∧ front <+: (σ m).pendingReg ∧
      σ (m + 1) = publishBody (σ m) := by
  obtain ⟨m, hm, htaken, hfront⟩ := h.publish.taken_while (P := fun s => front <+: s.pendingReg) hn
    (fun _ hfront => enables_publish (hfront.ne_nil hne))
    fun m hx hfront => hfront.trans (takes_pendingReg_prefix (h.run m) hx)
  have hrun := h.run m
  rw [eq_environment_of_isPublish htaken] at hrun
  exact ⟨m, hm, htaken, hfront, (Host.Outcome.next.inj hrun).symm⟩

/-- A registration is published after those before it: by induction on these. -/
theorem FairRun.publishes (h : FairRun σ x) {b : ButtonId} {k : Kind} {hd : HandlerRef}
    (before : List Registration) {n : Nat} (hn : before ++ [⟨b, k, hd⟩] <+: (σ n).pendingReg) :
    ∃ m, n ≤ m ∧ Stimulus.isStep AgentStep.isPublish (x m) = true ∧
      (∃ rest, (σ m).pendingReg = ⟨b, k, hd⟩ :: rest) ∧ (σ (m + 1)).handler b k = some hd := by
  induction before generalizing n with
  | nil =>
    obtain ⟨m, hm, htaken, ⟨rest, hrest⟩, hnext⟩ := h.next_publish (List.cons_ne_nil _ _) hn
    refine ⟨m, hm, htaken, ⟨rest, hrest.symm⟩, ?_⟩
    rw [hnext, handler_publishBody hrest.symm, if_pos ⟨rfl, rfl⟩]
  | cons reg before ih =>
    obtain ⟨m, hm, -, ⟨rest, hrest⟩, hnext⟩ := h.next_publish (List.cons_ne_nil _ _) hn
    have hmoved : before ++ [⟨b, k, hd⟩] <+: (σ (m + 1)).pendingReg :=
      ⟨rest, by rw [hnext, publishBody_pendingReg, ← hrest]; rfl⟩
    obtain ⟨m', hm', hpublished⟩ := ih hmoved
    exact ⟨m', by omega, hpublished⟩

end

/-- Settles O38: a registration has those before it to wait for, and a worker that is due stays so until it
steps. -/
theorem fairRunsProgress : Obligations.FairRunsProgress := by
  intro σ x hfair
  refine ⟨fun n b k h hmem => ?_, fun n hcoherent halive hwait => ?_⟩
  · obtain ⟨pre, post, hsplit⟩ := List.append_of_mem hmem
    exact hfair.publishes pre ⟨post, by simp [hsplit]⟩
  · obtain ⟨m, hm, htaken, hdue⟩ := hfair.worker.taken_while (P := State.WorkerDue (σ n).phase)
      ⟨hcoherent, halive, hwait, rfl⟩ (fun _ hdue => hdue.enables)
      fun m hx hdue => takes_keeps_workerDue hdue (hfair.run m) hx
    exact ⟨m, hm, htaken, hdue.phase, hdue.enables⟩

end Sys2Proof.Machine
end

section
/-! SUPPORT. The lifecycle (spec/45_lifecycle.md): START (R260-R264), the entry step of STOP and of HOST_EXIT
(R265, R266, R273), and the later steps of a STOP (R267-R272). -/

namespace Sys2Proof.Machine

section
variable {s t : State} {i : Instr} {c : Agent}

/-! ## The lifecycle moves forward -/

/-- What an operation does to the lifecycle: nothing, or one of the three moves of R274. -/
theorem Effect.lifecycle_cases (h : Effect s i t) :
    t.lifecycle = s.lifecycle ∨
      (∃ c, i = .start c ∧ s.lifecycle = .uninitialized ∧ t.lifecycle = .running) ∨
      (((∃ c, i = .stop c) ∨ i = .hostExit) ∧ s.lifecycle = .running ∧ t.lifecycle = .stopping) ∨
      ∃ c, i = .sJoin c ∧ s.cphase c = CPhase.sJoin ∧ t.lifecycle = .stopped := by
  cases h with
  | startSpawns c _ _ _ _ hl => exact .inr (.inl ⟨c, rfl, hl, rfl⟩)
  | stopBegins _ c hstop _ hl =>
    exact .inr (.inr (.inl ⟨hstop.imp (fun hi => ⟨c, hi⟩) And.left, hl, rfl⟩))
  | joined c hc => exact .inr (.inr (.inr ⟨c, rfl, hc, rfl⟩))
  | _ => exact .inl rfl

/-- An agent in one of the steps S_DRAIN1 to S_JOIN stops the block (R21, R265). -/
theorem State.Coherent.stopping_of_cphase {v : CPhase} (hs : s.Coherent) (hc : s.cphase c = v)
    (hv : 1 ≤ v.toNat ∧ v.toNat ≤ 5) : s.lifecycle = .stopping :=
  hs.lifecycle.stopping_iff.mpr ⟨c, by rwa [State.stopper, hc]⟩

/-! ## START -/

/-- What configuration writes that are all answered `ok` leave (R260). -/
def State.configured (s : State) (ws : List (Byte × Byte)) : State :=
  { s with
    busLog := s.busLog ++ ws.map (fun w => .write s.params.deviceAddr w.1 w.2 true)
    answers := s.answers.drop ws.length, draws := s.draws + ws.length }

theorem configured_nil (s : State) : s.configured [] = s := by
  simp [State.configured]

theorem configured_memWrite (reg v : Byte) (ws : List (Byte × Byte))
    (hok : Answer.isOk s.nextAnswer = true) :
    (memWrite reg v s).configured ws = s.configured ((reg, v) :: ws) := by
  simp [State.configured, memWrite, State.transact, hok, Nat.add_assoc, Nat.add_comm 1]

theorem answerAt_memWrite (reg v : Byte) (k : Nat) :
    (memWrite reg v s).answerAt k = s.answerAt (k + 1) := answerAt_of_used rfl rfl k

/-- The next answer after some configuration writes. -/
theorem nextAnswer_configured (s : State) (ws : List (Byte × Byte)) :
    (s.configured ws).nextAnswer = s.answerAt ws.length := by
  rw [← answerAt_zero]
  simp [State.answerAt, State.configured]

/-- Configuration writes that are answered `ok` are made, and the rest of the sequence follows. -/
theorem configure_append (pre post : List (Byte × Byte))
    (hok : ∀ k, k < pre.length → Answer.isOk (s.answerAt k) = true) :
    configure (pre ++ post) s = configure post (s.configured pre) := by
  induction pre generalizing s with
  | nil => rw [configured_nil, List.nil_append]
  | cons w rest ih =>
    obtain ⟨reg, v⟩ := w
    have hfirst := hok 0 (Nat.succ_pos _)
    rw [answerAt_zero] at hfirst
    rw [List.cons_append, configure, if_pos hfirst, ih, configured_memWrite reg v rest hfirst]
    intro k hk
    rw [answerAt_memWrite]
    exact hok (k + 1) (Nat.succ_lt_succ hk)

/-- The configuration, when every write is answered `ok` (R260). -/
theorem configure_of_ok {ws : List (Byte × Byte)}
    (hok : ∀ k, k < ws.length → Answer.isOk (s.answerAt k) = true) :
    configure ws s = (none, s.configured ws) := by
  simpa [configure] using configure_append ws [] hok

/-- The configuration, when a write is answered `fail` after some that are answered `ok`: it ends with that
write's record (R264). -/
theorem configure_of_fail {pre post : List (Byte × Byte)} {reg v : Byte}
    (hok : ∀ k, k < pre.length → Answer.isOk (s.answerAt k) = true)
    (hfail : s.answerAt pre.length = .fail) :
    configure (pre ++ (reg, v) :: post) s = (some reg, { s with
      busLog := s.busLog ++ pre.map (fun w => .write s.params.deviceAddr w.1 w.2 true) ++
        [.write s.params.deviceAddr reg v false]
      answers := s.answers.drop (pre.length + 1), draws := s.draws + (pre.length + 1) }) := by
  have hno : Answer.isOk (s.configured pre).nextAnswer = false := by
    rw [nextAnswer_configured, hfail, Answer.isOk]
  rw [configure_append pre _ hok, configure, hno, if_neg Bool.false_ne_true, memWrite, hno]
  simp [State.configured, State.transact, Nat.add_assoc]

/-- START in a block that has not been started (R261, R264). -/
theorem exec_start_of_uninitialized (hissue : s.canIssue c = true)
    (hl : s.lifecycle = .uninitialized) : exec (.start c) s =
      .next (startOutcome c (configure (configSeq s.params) s)) := by
  refine (command_of_canIssue hissue (startBody c)).trans ?_
  rw [startBody, if_pos hl]

/-! ## The steps of a STOP -/

theorem stopStep_of_enabled {p : CPhase} (hc : s.cphase c = p) (hx : s.present c = true)
    (f : State → State) : stopStep c p f s = .next (f s) :=
  congrArg Host.Outcome.next (if_pos ⟨hc, hx⟩)

/-- A step of STOP whose condition is not met holds (R18; log 6). -/
theorem stopStep_of_hold {f : State → State} (p : CPhase) (h : f s = s) :
    stopStep c p f s = .next s := by
  rw [stopStep, h, ite_self]

/-- A write of one agent's `cphase` moves that agent and leaves the others where they are (R33). -/
theorem cphase_moved {v : CPhase} (h : t.cphases = setPhaseOf s.cphases (Agent.key c) v) :
    t.cphase c = v ∧ ∀ d, d ≠ c → t.cphase d = s.cphase d :=
  ⟨(cphase_of_cphases_eq_set h c).trans (if_pos rfl),
    fun d hd => (cphase_of_cphases_eq_set h d).trans (if_neg hd)⟩

/-- A drain step completes once drained (R267, R269). -/
theorem drainStep_of_drained {p : CPhase} (v : CPhase) (hx : s.present c = true)
    (hc : s.cphase c = p) (hq : s.queue = []) (hin : s.inflight = none) :
    stopStep c p (fun s => s.whenDrained fun s => s.setCphase c v) s = .next (s.setCphase c v) :=
  (stopStep_of_enabled hc hx _).trans (congrArg _ (whenDrained_of_drained hq hin _))

/-- With a frame queued or in flight a drain step holds (R174). -/
theorem drainStep_of_not_drained (p v : CPhase) (h : s.queue ≠ [] ∨ s.inflight ≠ none) :
    stopStep c p (fun s => s.whenDrained fun s => s.setCphase c v) s = .next s :=
  stopStep_of_hold p (whenDrained_of_not_drained h fun s => s.setCphase c v)

/-- S_SIGNAL clears the running flag (R270). -/
theorem exec_sSignal_of_enabled (hc : s.cphase c = CPhase.sSignal) (hx : s.present c = true) :
    exec (.sSignal c) s = .next ({ s with running := false }.setCphase c CPhase.sJoin) :=
  congrArg Host.Outcome.next (if_pos ⟨hc, hx⟩)

/-- The queue has no room just when it is full (R171). -/
theorem full_of_not_hasRoom (h : ¬ s.hasRoom) : s.full = true := by
  simp only [State.hasRoom, not_or, not_exists, not_and, not_lt] at h
  obtain ⟨hfinite, hlong⟩ := h
  obtain ⟨j, hj⟩ := Option.ne_none_iff_exists'.mp hfinite
  exact full_of_capacity_le hj (hlong j hj)

/-- S_JOIN completes once the worker has exited (R271). -/
theorem exec_sJoin_of_exited (hc : s.cphase c = CPhase.sJoin) (hx : s.present c = true)
    (hp : s.phase = Phase.exited) : exec (.sJoin c) s =
      .next (({ s with lifecycle := .stopped }.setCphase c CPhase.idle).answerTo (.agent c) .done) :=
  (stopStep_of_enabled hc hx (joinBody c)).trans (congrArg _ (if_pos hp))

/-- S_WAIT completes once the block is stopped (R272). -/
theorem exec_sWait_of_stopped (hc : s.cphase c = CPhase.sWait) (hx : s.present c = true)
    (hl : s.lifecycle = .stopped) : exec (.sWait c) s =
      .next ((s.setCphase c CPhase.idle).answerTo (.agent c) .done) :=
  (stopStep_of_enabled hc hx (waitBody c)).trans (congrArg _ (if_pos hl))

/-- STOP and HOST_EXIT have one entry step (R273). -/
theorem exec_of_stopsFor (hi : stopsFor i c) (hissue : s.canIssue c = true) :
    exec i s = .next (stopBody c s) := by
  obtain rfl | ⟨rfl, rfl⟩ := hi <;> exact command_of_canIssue hissue _

end

/-! ## The statements -/

/-- Settles O50: each of the three moves is one value forward, S_JOIN from a coherent state because its agent
stops the block. -/
theorem lifecycleForward : Obligations.LifecycleForward := by
  intro i s t hexec
  obtain hsame | ⟨c, hi, hl, ht⟩ | ⟨hi, hl, ht⟩ | ⟨c, hi, hc, ht⟩ := (exec_effect hexec).lifecycle_cases
  · simp [hsame]
  · exact ⟨by simp [hl, ht, Lifecycle.code], fun _ => by simp [hl, ht, Lifecycle.code],
      fun _ => .inl ⟨c, hi, hl, ht⟩⟩
  · exact ⟨by simp [hl, ht, Lifecycle.code], fun _ => by simp [hl, ht, Lifecycle.code],
      fun _ => .inr (.inl ⟨hi, hl, ht⟩)⟩
  · refine ⟨?_, fun hs => ?_, fun _ => .inr (.inr ⟨c, hi, ht⟩)⟩
    · rw [ht]
      cases s.lifecycle <;> decide
    · have hl : s.lifecycle = .stopping := hs.stopping_of_cphase hc (by decide)
      simp [hl, ht, Lifecycle.code]

/-- Settles O17: the three writes are made, and the spawn follows. -/
theorem startSpawnsWorker : Obligations.StartSpawnsWorker := by
  intro s c hissue hl hok
  rw [exec_start_of_uninitialized hissue hl, configure_of_ok (ws := configSeq s.params) hok]
  rfl

/-- Settles O18: the configuration ends with the write that fails, and START returns its register. -/
theorem startConfigurationFailure : Obligations.StartConfigurationFailure := by
  intro s c i hissue hl hi hok hfail
  have hlen : ((configSeq s.params).take i).length = i := List.length_take_of_le (Nat.le_of_lt hi)
  have hsplit : configSeq s.params = (configSeq s.params).take i ++
      (([0x01#8, 0x02#8, 0x03#8] : List Byte).getD i 0#8,
        ([0x00#8, s.params.polWord, s.params.dirWord] : List Byte).getD i 0#8) ::
      (configSeq s.params).drop (i + 1) := by
    interval_cases i <;> rfl
  rw [exec_start_of_uninitialized hissue hl, hsplit,
    configure_of_fail (by rwa [hlen]) (by rwa [hlen]), hlen]
  rfl

/-- Settles O19: START's body reads the lifecycle first. -/
theorem illegalStart : Obligations.IllegalStart := fun _ c hissue hl =>
  (command_of_canIssue hissue (startBody c)).trans (congrArg _ (if_neg hl))

/-- Settles O20: the entry step reads the lifecycle, and in Stopping and Running moves its agent alone. -/
theorem stopEntry : Obligations.StopEntry := by
  intro s i c hissue hi
  rw [exec_of_stopsFor hi hissue]
  refine ⟨fun hl => ?_, fun hl => ?_, fun hl => ?_⟩
  · have hbody : stopBody c s = s.answerTo (.agent c) .done := by
      obtain hl | hl := hl <;> rw [stopBody, hl]
    exact congrArg _ hbody
  · have hbody : stopBody c s = s.setCphase c CPhase.sWait := by rw [stopBody, hl]
    obtain ⟨hself, hothers⟩ := cphase_moved (setCphase_cphases s c CPhase.sWait)
    exact ⟨_, congrArg _ hbody, hself, hothers, rfl⟩
  · have hbody : stopBody c s = { s with lifecycle := .stopping }.setCphase c CPhase.sDrain1 := by
      rw [stopBody, hl]
    obtain ⟨hself, hothers⟩ := cphase_moved (s := s) (setCphase_cphases _ c CPhase.sDrain1)
    exact ⟨_, congrArg _ hbody, hself, hothers, rfl⟩

/-- Settles O36: both are a drain step, from their own `cphase` to the next. -/
theorem drainSteps : Obligations.DrainSteps := by
  intro s c hx
  refine ⟨fun hq hin hc => ?_, fun hq hin hc => ?_, fun h => ?_⟩
  · obtain ⟨hself, hothers⟩ := cphase_moved (setCphase_cphases s c CPhase.sPushoff)
    exact ⟨_, drainStep_of_drained _ hx hc hq hin, hself, hothers, rfl⟩
  · obtain ⟨hself, hothers⟩ := cphase_moved (setCphase_cphases s c CPhase.sSignal)
    exact ⟨_, drainStep_of_drained _ hx hc hq hin, hself, hothers, rfl⟩
  · exact ⟨drainStep_of_not_drained _ _ h, drainStep_of_not_drained _ _ h⟩

/-- Settles O37: the push is PUSH with room or on a full queue. -/
theorem pushOffAndSignal : Obligations.PushOffAndSignal := by
  intro s c hx
  refine ⟨fun hc => ?_, fun hc => ?_⟩
  · obtain ⟨hself, hothers⟩ :=
      cphase_moved (s := s) (setCphase_cphases (s.push (offFrame s.params)) c CPhase.sDrain2)
    refine ⟨_, exec_sPushoff_of_enabled hc hx, hself, hothers, fun hroom => ?_, fun hroom => ?_⟩
    · rw [push_of_hasRoom hroom]
      rfl
    · rw [push_of_full (full_of_not_hasRoom hroom)]
      rfl
  · obtain ⟨hself, hothers⟩ := cphase_moved (s := s) (setCphase_cphases _ c CPhase.sJoin)
    exact ⟨_, exec_sSignal_of_enabled hc hx, rfl, hself, hothers, rfl⟩

/-- Settles O39: without the exited worker, or the stopped block, the step's body leaves the state alone. -/
theorem joinAndWait : Obligations.JoinAndWait := by
  intro s c hx
  refine ⟨fun hc hp => ?_, fun hp => stopStep_of_hold _ (if_neg hp), fun hc hl => ?_,
    fun hl => stopStep_of_hold _ (if_neg hl)⟩
  · obtain ⟨hself, hothers⟩ := cphase_moved (s := s) (setCphase_cphases _ c CPhase.idle)
    exact ⟨_, exec_sJoin_of_exited hc hx hp, rfl, hself, hothers, rfl, rfl⟩
  · obtain ⟨hself, hothers⟩ := cphase_moved (setCphase_cphases s c CPhase.idle)
    exact ⟨_, exec_sWait_of_stopped hc hx hl, hself, hothers, rfl, rfl⟩

end Sys2Proof.Machine
end

section
/-! SUPPORT. What a completed STOP has sent (spec/45_lifecycle.md R275): every frame that was queued, and
after them the all-off frame. -/

namespace Sys2Proof.Machine

section
variable {s t u : State} {i : Instr}

/-! ## How far a STOP is -/

/-- What an operation does to the `cphase` of one agent: nothing, an entry to STOP or a return from it, or a
step of STOP, with what S_PUSHOFF pushes and what S_DRAIN2 finds (R265-R272). -/
theorem Effect.cphase_moves (h : Effect s i t) (d : Agent) :
    t.cphase d = s.cphase d ∨ s.bystander d ∨
      (s.cphase d = CPhase.sDrain1 ∧ t.cphase d = CPhase.sPushoff) ∨
      (s.cphase d = CPhase.sPushoff ∧ t.cphase d = CPhase.sDrain2 ∧
        (t.faults.queueOverflow = false → pushedBy i s = [offFrame s.params])) ∨
      (s.cphase d = CPhase.sDrain2 ∧ s.queue = []) ∨
      s.cphase d = CPhase.sSignal ∨ s.cphase d = CPhase.sJoin := by
  by_cases howner : cphaseOwner i = some d
  · cases h with
    | stopWaits _ c hstop hc | stopBegins _ c hstop hc =>
      obtain rfl : c = d := Option.some.inj (hstop.cphaseOwner_eq.symm.trans howner)
      exact .inr (.inl (.inl (canIssue_idle hc)))
    | drained1 _ hc =>
      cases howner
      exact .inr (.inr (.inl ⟨hc, (cphase_moved (s := s) rfl).1⟩))
    | pushedOff _ hc hx =>
      cases howner
      refine .inr (.inr (.inr (.inl ⟨hc, (cphase_moved (s := s) rfl).1, fun hfits => ?_⟩)))
      obtain ⟨hfull, -⟩ := Bool.or_eq_false_iff.mp hfits
      simp [pushedBy, hfull, hc, hx, offFrame]
    | drained2 _ hc _ hdrained =>
      cases howner
      exact .inr (.inr (.inr (.inr (.inl ⟨hc, ((drained_iff s).mp hdrained).1⟩))))
    | signalled _ hc =>
      cases howner
      exact .inr (.inr (.inr (.inr (.inr (.inl hc)))))
    | joined _ hc =>
      cases howner
      exact .inr (.inr (.inr (.inr (.inr (.inr hc)))))
    | waited _ hc =>
      cases howner
      exact .inr (.inl (.inr hc))
    | _ => exact .inl rfl
  · exact .inl (h.cphase_eq howner)

/-- The all-off frame is still to be pushed: the block is running, or an agent is in S_DRAIN1 or
S_PUSHOFF. -/
def State.offDue (s : State) : Prop :=
  s.lifecycle = .running ∨ ∃ c, s.cphase c = CPhase.sDrain1 ∨ s.cphase c = CPhase.sPushoff

/-- An agent in S_DRAIN2 waits for the frames up to the all-off frame. -/
def State.finalDrain (s : State) : Prop := ∃ c, s.cphase c = CPhase.sDrain2

theorem State.Coherent.not_stopped_of_offDue (hs : s.Coherent) (h : s.offDue) :
    s.lifecycle ≠ .stopped := by
  obtain hl | ⟨c, hc | hc⟩ := h
  · simp [hl]
  · simp [hs.stopping_of_cphase hc (by decide)]
  · simp [hs.stopping_of_cphase hc (by decide)]

theorem State.Coherent.not_stopped_of_finalDrain (hs : s.Coherent) (h : s.finalDrain) :
    s.lifecycle ≠ .stopped := by
  obtain ⟨c, hc⟩ := h
  simp [hs.stopping_of_cphase hc (by decide)]

/-- A running block stays so until a STOP begins, with its agent in S_DRAIN1 (R265). -/
theorem Effect.offDue_of_running (h : Effect s i t) (hs : s.Coherent) (hl : s.lifecycle = .running) :
    t.offDue := by
  cases h with
  | stopBegins _ c => exact .inr ⟨c, .inl (cphase_moved (s := s) rfl).1⟩
  | startSpawns => exact .inl rfl
  | joined c hc => simp [hs.stopping_of_cphase hc (by decide)] at hl
  | _ => exact .inl hl

/-- The all-off frame stays due until S_PUSHOFF pushes it (R267, R268). -/
theorem Effect.offDue_cases (h : Effect s i t) (hs : s.Coherent) (hdue : s.offDue)
    (hfits : t.faults.queueOverflow = false) :
    t.offDue ∨ (t.finalDrain ∧ pushedBy i s = [offFrame s.params]) := by
  obtain hl | ⟨d, hd | hd⟩ := hdue
  · exact .inl (h.offDue_of_running hs hl)
  · have hmoves : t.cphase d = CPhase.sDrain1 ∨ t.cphase d = CPhase.sPushoff := by
      simpa [State.bystander, hd] using h.cphase_moves d
    exact .inl (.inr ⟨d, hmoves⟩)
  · have hmoves : t.cphase d = CPhase.sPushoff ∨
        (t.cphase d = CPhase.sDrain2 ∧ pushedBy i s = [offFrame s.params]) := by
      simpa [State.bystander, hd, hfits] using h.cphase_moves d
    exact hmoves.imp (fun hstays => .inr ⟨d, .inr hstays⟩) (And.imp_left fun hgoes => ⟨d, hgoes⟩)

/-- S_DRAIN2 lasts until the queue is empty (R269). -/
theorem Effect.finalDrain_cases (h : Effect s i t) (hdrain : s.finalDrain) :
    t.finalDrain ∨ s.queue = [] := by
  obtain ⟨d, hd⟩ := hdrain
  have hmoves : t.cphase d = CPhase.sDrain2 ∨ s.queue = [] := by
    simpa [State.bystander, hd] using h.cphase_moves d
  exact hmoves.imp_left fun hstays => ⟨d, hstays⟩

/-! ## Steps -/

theorem step_params_eq (h : step s = .next t) : t.params = s.params := by
  obtain ⟨i, -, he⟩ | ⟨_, _, _, -, rfl, -⟩ := step_effect h
  · exact he.params_eq
  · rfl

theorem State.Coherent.advance (hs : s.Coherent) : s.advance.Coherent :=
  hs.congr_carriers s.refused s.script.tail (s.choices + 1)

theorem step_offDue (h : step s = .next t) (hs : s.Coherent) (hdue : s.offDue)
    (hfits : t.faults.queueOverflow = false) :
    t.offDue ∨ (t.finalDrain ∧ pushedIn 1 s = [offFrame s.params]) := by
  obtain ⟨i, hd, he⟩ | ⟨_, _, _, -, rfl, -⟩ := step_effect h
  · have hpushed : pushedIn 1 s = pushedBy i s.advance := by simp [pushedIn, hd, h]
    rw [hpushed]
    exact he.offDue_cases hs.advance hdue hfits
  · exact .inl hdue

theorem step_finalDrain (h : step s = .next t) (hdrain : s.finalDrain) :
    t.finalDrain ∨ s.queue = [] := by
  obtain ⟨i, -, he⟩ | ⟨_, _, _, -, rfl, -⟩ := step_effect h
  · exact he.finalDrain_cases hdrain
  · exact .inl hdrain

/-! ## Runs -/

/-- What every step keeps, a run keeps. -/
theorem run_keeps {P : State → Prop} (hstep : ∀ a b, P a → step a = .next b → P b) (n : Nat)
    (hs : P s) (hrun : Host.Core.run Sys2Proof.core n s = .next t) : P t := by
  induction n generalizing s with
  | zero =>
    obtain rfl := Host.Outcome.next.inj hrun
    exact hs
  | succ n ih =>
    obtain ⟨u, hu, hrest⟩ := run_inv hrun
    exact ih (hstep s u hs hu) hrest

/-- A run that ends without an overflow has none on its way (R171, R296). -/
theorem no_overflow_of_run (n : Nat) (hrun : Host.Core.run Sys2Proof.core n s = .next t)
    (ht : t.faults.queueOverflow = false) : s.faults.queueOverflow = false := by
  refine Bool.eq_false_iff.mpr fun hs => Bool.eq_false_iff.mp ht ?_
  exact run_keeps (P := fun a => a.faults.queueOverflow = true)
    (fun a b ha hab => (faultsAndRefusalSticky a b hab).2.1 ha) n hs hrun

/-- If after its first step a run pops all that is queued then, it pops all that is queued now, and what the
step pushes. -/
theorem poppedIn_of_rest {n : Nat} {rest : List Frame} (h : step s = .next u)
    (hrest : poppedIn n u = u.queue ++ rest) :
    poppedIn (n + 1) s = s.queue ++ pushedIn 1 s ++ rest := by
  rw [poppedIn_succ h, hrest, ← List.append_assoc, step_fifo h]

/-- A run that completes S_DRAIN2 pops every frame queued at its start: the step that completes it finds the
queue empty. -/
theorem poppedIn_of_finalDrain (n : Nat) (hs : s.Coherent) (hdrain : s.finalDrain)
    (hrun : Host.Core.run Sys2Proof.core n s = .next t) (ht : t.lifecycle = .stopped) :
    ∃ after, poppedIn n s = s.queue ++ after := by
  induction n generalizing s with
  | zero =>
    obtain rfl := Host.Outcome.next.inj hrun
    exact absurd ht (hs.not_stopped_of_finalDrain hdrain)
  | succ n ih =>
    obtain ⟨u, hstep, hrest⟩ := run_inv hrun
    obtain hdrain' | hempty := step_finalDrain hstep hdrain
    · obtain ⟨after, hpopped⟩ := ih (stepKeepsCoherent s u hs hstep) hdrain' hrest
      exact ⟨_, (poppedIn_of_rest hstep hpopped).trans (List.append_assoc ..)⟩
    · exact ⟨_, by rw [hempty, List.nil_append]⟩

/-- A run that completes a STOP pops every frame queued at its start, and the all-off frame after them. -/
theorem poppedIn_of_offDue (n : Nat) (hs : s.Coherent) (hdue : s.offDue)
    (hrun : Host.Core.run Sys2Proof.core n s = .next t) (ht : t.lifecycle = .stopped)
    (hfits : t.faults.queueOverflow = false) :
    ∃ before after, poppedIn n s = s.queue ++ before ++ [offFrame s.params] ++ after := by
  induction n generalizing s with
  | zero =>
    obtain rfl := Host.Outcome.next.inj hrun
    exact absurd ht (hs.not_stopped_of_offDue hdue)
  | succ n ih =>
    obtain ⟨u, hstep, hrest⟩ := run_inv hrun
    have hu := stepKeepsCoherent s u hs hstep
    obtain hdue' | ⟨hdrain, hpushed⟩ :=
      step_offDue hstep hs hdue (no_overflow_of_run n hrest hfits)
    · obtain ⟨before, after, hpopped⟩ := ih hu hdue' hrest
      rw [step_params_eq hstep, List.append_assoc, List.append_assoc] at hpopped
      exact ⟨pushedIn 1 s ++ before, after, by simp [poppedIn_of_rest hstep hpopped]⟩
    · obtain ⟨after, hpopped⟩ := poppedIn_of_finalDrain n hu hdrain hrest ht
      exact ⟨[], after, by rw [poppedIn_of_rest hstep hpopped, hpushed, List.append_nil]⟩

end

/-- Settles O58: the run keeps the machine coherent, so a stopped block has an exited worker and no frame in
flight; and while the block runs the all-off frame is due. -/
theorem stopPopsEverythingThenOff : Obligations.StopPopsEverythingThenOff := by
  intro n s t hs _ hl hrun ht hfits
  have hcoherent : t.Coherent := run_keeps stepKeepsCoherent n hs hrun
  have hexited := hcoherent.lifecycle.stopped_exited ht
  exact ⟨hexited, hcoherent.writesInWrite.inflight_none hexited (by decide),
    poppedIn_of_offDue n hs (.inl hl) hrun ht hfits⟩

end Sys2Proof.Machine
end

section
/-! SUPPORT. Errors that end what raised them (spec/60_exceptions.md): InvalidColour, returned to the caller
(R294), and BusIOFailure of the worker's WRITE and READ (R292). -/

namespace Sys2Proof.Machine

section
variable {s : State}

/-! ## InvalidColour -/

/-- SET_COLOUR of a colour that fails the check returns the channel at fault (R294). -/
theorem setColourBody_of_invalid {r g b : ChanVal} {ch : Channel} (c : Agent)
    (h : checkColour r g b = .error ch) :
    setColourBody c r g b s = s.answerTo (.agent c) (.err (invalidColour ch)) := by
  rw [setColourBody, h]

/-! ## BusIOFailure -/

/-- WRITE of a chunk that is answered `fail` gives up the rest of the frame (R292). -/
theorem writeChunk_of_fail (f : Frame) (k : Nat) (ha : s.nextAnswer = .fail) :
    writeChunk f k s = { s with
      busLog := s.busLog ++ [.block s.params.deviceAddr regOutput (chunk s.maxChunk f k) false]
      answers := s.answers.tail, draws := s.draws + 1
      errLog := s.errLog ++ [busIOFailure .write regOutput k]
      inflight := none, phase := Phase.sleep } := by
  simp [writeChunk, memWriteBlock, State.transact, State.raiseError, Answer.isOk, ha]

/-- READ that is answered `fail` samples nothing, and the rest of the cycle is skipped (R292). -/
theorem readBody_of_fail (ha : s.nextAnswer = .fail) :
    readBody s = { s with
      busLog := s.busLog ++ [.read s.params.deviceAddr regInput .fail]
      answers := s.answers.tail, draws := s.draws + 1
      errLog := s.errLog ++ [busIOFailure .read regInput 0]
      phase := Phase.sleep } := by
  simp [readBody, memRead, State.transact, State.raiseError, State.goto, ha]

end

/-! ## The statements -/

/-- Settles O22: the check's error is the command's whole effect. -/
theorem invalidColourChangesNothing : Obligations.InvalidColourChangesNothing :=
  fun _ c r g b _ hissue hcheck =>
    (command_of_canIssue hissue (setColourBody c r g b)).trans
      (congrArg _ (setColourBody_of_invalid c hcheck))

/-- Settles O29: the answer `fail` selects the failing case of either step. -/
theorem busFailureInWorker : Obligations.BusFailureInWorker := by
  refine fun s ha => ⟨fun f k hp hi hk => ?_, fun hp => ?_⟩
  · refine (workerStep_of_phase hp writeBody).trans (congrArg _ ?_)
    exact (writeBody_of_inflight hi hk).trans (writeChunk_of_fail f k ha)
  · exact (workerStep_of_phase hp readBody).trans (congrArg _ (readBody_of_fail ha))

end Sys2Proof.Machine
end

section
/-! SUPPORT. What reset leaves (spec/70_reset_and_hazards.md R320, R321), and the hazards of stopping: a
handler that calls STOP (R330, R332), and the frames that are pushed after the last one sent (R331). -/

namespace Sys2Proof.Machine

/-! ## Reset -/

theorem reset_handler (b : ButtonId) (k : Kind) : State.reset.handler b k = none := by
  cases k <;> simp [State.handler, State.reset, Slots.get]

theorem reset_cphase (c : Agent) : State.reset.cphase c = CPhase.idle := rfl

theorem reset_workerCoherent : State.reset.WorkerCoherent where
  phase_defined := .inr rfl
  inflight_iff := iff_of_false nofun (by decide)
  inflight_index := nofun
  queue_frames := nofun
  snapshot_iff := iff_of_false nofun (by decide)
  events_phase := fun h => absurd rfl h
  call_iff := iff_of_false nofun (by decide)
  no_bad_phase := rfl

/-- At reset nobody is inside STOP, and the worker does not run. -/
theorem reset_callersCoherent : State.reset.CallersCoherent :=
  .of_no_stopper nofun (fun c => .inl (reset_cphase c)) nofun (iff_of_false nofun nofun)

theorem reset_lifecycleCoherent : State.reset.LifecycleCoherent :=
  { reset_callersCoherent with
    unspawned_iff := iff_of_true rfl rfl
    stopped_exited := nofun
    exited_not_running := fun _ => rfl
    blocked_present := fun c h => absurd (reset_cphase c) h }

section
variable {s t : State} {i : Instr} {c : Agent}

/-! ## The queue under the agents -/

/-- Where POP takes no frame, an agent's operation only appends to the queue (R170, R331). -/
theorem Effect.queue_append (h : Effect s i t) (hport : (encode i).sel.isPort = false)
    (hpop : s.phase = Phase.pop → s.pastFinalDrain = true) :
    ∃ pushed, t.queue = s.queue ++ pushed := by
  cases h with
  | colourPushed | pushedOff => exact ⟨_, push_queue_eq_append s _⟩
  | popped f q hp hq hd => exact absurd hd (by simp [hpop hp])
  | portPushed | portPopped => cases hport
  | _ => exact ⟨[], (List.append_nil _).symm⟩

/-! ## A handler that calls STOP (R332) -/

/-- The worker waits in HWAIT for as long as the handler is inside STOP, and makes no transaction
meanwhile (R197, R332; log 12). -/
theorem Effect.hwait_stays (h : Effect s i t) (hport : (encode i).sel.isPort = false)
    (hp : s.phase = Phase.hwait) (hl : s.lifecycle ≠ .uninitialized)
    (hstop : s.cphase .hctx ≠ CPhase.idle) :
    t.phase = Phase.hwait ∧ t.call = s.call ∧ t.busLog = s.busLog := by
  cases h with
  | handlerOk _ _ _ _ _ hidle | handlerExc _ _ _ _ _ hidle => exact absurd hidle hstop
  | startFails _ _ _ _ _ _ hl' | startSpawns _ _ _ _ _ hl' => exact absurd hl' hl
  | checked hp' | popped _ _ hp' | popNothing hp' | writeNextChunk _ _ hp' | writeLastChunk _ _ hp'
  | writeFails _ _ hp' | readSampled _ hp' | readFails hp' | compared _ hp' | dispatchDone hp'
  | dispatchInvoked _ _ _ hp' | updated _ hp' | slept hp' =>
    exact absurd (hp.symm.trans hp') (by decide)
  | portRead | portWrote | portWroteBlock => cases hport
  | _ => exact ⟨hp, rfl, rfl⟩

/-- An agent in S_DRAIN2 waits there while a frame is queued (R269). -/
theorem Effect.sDrain2_waits (h : Effect s i t) (hc : s.cphase c = CPhase.sDrain2)
    (hq : s.queue ≠ []) : t.cphase c = CPhase.sDrain2 := by
  simpa [State.bystander, hc, hq] using h.cphase_moves c

/-- The handler waits for the worker to pop, and the worker for the handler to return: neither moves,
and the other agents only push. -/
theorem Effect.keeps_handlerStopDeadlock (h : Effect s i t)
    (hport : (encode i).sel.isPort = false) (hs : s.handlerStopDeadlock) :
    t.handlerStopDeadlock ∧ t.call = s.call ∧ t.busLog = s.busLog ∧
      ∃ more, t.queue = s.queue ++ more := by
  obtain ⟨hp, hcall, hdrain, hq, hl⟩ := hs
  obtain ⟨hp', hcall', hbus⟩ := h.hwait_stays hport hp hl (by simp [hdrain])
  obtain ⟨more, hqueue⟩ := h.queue_append hport (by simp [hp])
  have hq' : t.queue ≠ [] := by simp [hqueue, hq]
  exact ⟨⟨hp', hcall' ▸ hcall, h.sDrain2_waits hdrain hq, hq', mt h.lifecycle_of_uninitialized hl⟩,
    hcall', hbus, more, hqueue⟩

/-! ## Frames that are never sent (R331) -/

/-- An agent past its S_DRAIN2 stays so until its STOP has stopped the block (R270, R271). -/
theorem Effect.signalling_stays (h : Effect s i t)
    (hc : s.cphase c = CPhase.sSignal ∨ s.cphase c = CPhase.sJoin) :
    t.lifecycle = .stopped ∨ t.cphase c = CPhase.sSignal ∨ t.cphase c = CPhase.sJoin := by
  by_cases howner : cphaseOwner i = some c
  · cases h with
    | signalled =>
      cases howner
      exact .inr (.inr (cphase_moved (s := s) rfl).1)
    | joined => exact .inl rfl
    | stopWaits _ d hstop hissue | stopBegins _ d hstop hissue =>
      obtain rfl : d = c := Option.some.inj (hstop.cphaseOwner_eq.symm.trans howner)
      simp [canIssue_idle hissue] at hc
    | drained1 _ hd | pushedOff _ hd | drained2 _ hd | waited _ hd =>
      cases howner
      simp [hd] at hc
    | _ => exact .inr hc
  · rw [h.cphase_eq howner]
    exact .inr hc

/-- A stopped block stays so (R21, R274). -/
theorem Effect.stopped_stays (h : Effect s i t) (hl : s.lifecycle = .stopped) :
    t.lifecycle = .stopped := by
  obtain hsame | ⟨-, -, hl', -⟩ | ⟨-, hl', -⟩ | ⟨-, -, -, ht⟩ := h.lifecycle_cases
  · exact hsame.trans hl
  · exact absurd (hl.symm.trans hl') nofun
  · exact absurd (hl.symm.trans hl') nofun
  · exact ht

theorem Effect.keeps_pastFinalDrain (h : Effect s i t) (hs : s.pastFinalDrain = true) :
    t.pastFinalDrain = true := by
  rw [pastFinalDrain_iff] at hs ⊢
  obtain hl | ⟨c, hc⟩ := hs
  · exact .inl (h.stopped_stays hl)
  · exact (h.signalling_stays hc).imp_right fun hstays => ⟨c, hstays⟩

/-- Only POP takes a frame into flight, and past the final drain it takes none (R191, R331). -/
theorem Effect.keeps_lastFrameSent (h : Effect s i t) (hs : s.lastFrameSent) : t.lastFrameSent := by
  obtain ⟨hpast, hin⟩ := hs
  refine ⟨h.keeps_pastFinalDrain hpast, ?_⟩
  cases h with
  | popped _ _ _ _ hd => exact absurd hpast (by simp [hd])
  | writeNextChunk _ _ _ hi => exact absurd (hin.symm.trans hi) nofun
  | startSpawns | writeLastChunk | writeFails => rfl
  | _ => exact hin

/-- Without a frame in flight no agent makes a block write (R192). -/
theorem Effect.blockWrites_eq_of_no_frame (h : Effect s i t)
    (hport : (encode i).sel.isPort = false) (hin : s.inflight = none) :
    blockWrites t.busLog = blockWrites s.busLog := by
  cases h with
  | startFails _ _ _ _ _ _ _ hr | startSpawns _ _ _ _ _ _ hr => simp [blockWrites_of_writes hr]
  | writeNextChunk _ _ _ hi | writeLastChunk _ _ _ hi | writeFails _ _ _ hi =>
    exact absurd (hin.symm.trans hi) nofun
  | readSampled | readFails => simp
  | portRead | portWrote | portWroteBlock => cases hport
  | _ => rfl

/-- A worker that has exited found the running flag down, and so an agent past its S_DRAIN2, or the block
stopped (R190, R270). -/
theorem State.Coherent.pastFinalDrain_of_exited (hs : s.Coherent) (hp : s.phase = Phase.exited) :
    s.pastFinalDrain = true := by
  have hrun : s.running = false := hs.lifecycle.exited_not_running hp
  rw [pastFinalDrain_iff]
  cases hl : s.lifecycle with
  | uninitialized => exact absurd hl (hs.lifecycle.started hp (by decide))
  | running => simp [hs.lifecycle.running_iff.mpr (.inl hl)] at hrun
  | stopping =>
    obtain ⟨c, hc⟩ := hs.lifecycle.stopping_iff.mp hl
    have hsignalled : ¬ (s.cphase c).toNat ≤ 4 := fun hle => by
      simp [(hs.lifecycle.callers.running_iff_of_stopper hc).mpr hle] at hrun
    have hjoin : (s.cphase c).toNat = 5 := by
      have := hc.2
      omega
    exact .inr ⟨c, .inr (BitVec.eq_of_toNat_eq hjoin)⟩
  | stopped => exact .inl rfl

theorem State.Coherent.lastFrameSent_of_exited (hs : s.Coherent) (hp : s.phase = Phase.exited) :
    s.lastFrameSent :=
  ⟨hs.pastFinalDrain_of_exited hp, hs.writesInWrite.inflight_none hp (by decide)⟩

end

/-! ## The statements -/

/-- Settles O59: a packet that is no operation touches nothing the deadlock speaks of. -/
theorem handlerStopDeadlocks : Obligations.HandlerStopDeadlocks := by
  intro s t a hs htakes
  obtain ⟨i, hd, h⟩ | ⟨bits, mark, rfl⟩ := takes_effect htakes
  · exact h.keeps_handlerStopDeadlock (agentPacket_not_port hd) hs
  · exact ⟨hs, rfl, rfl, [], (List.append_nil _).symm⟩

/-- Settles O35: S_DRAIN2 completes with nothing queued or in flight, each step of an agent keeps that the
last frame is sent, and a stopped block's worker has exited. -/
theorem framesNeverSent : Obligations.FramesNeverSent := by
  refine ⟨fun s c hx hc hq hin => ?_, fun s t a hs htakes => ?_, fun s hs hend => ?_⟩
  · obtain ⟨hself, -⟩ := cphase_moved (setCphase_cphases s c CPhase.sSignal)
    exact ⟨_, drainStep_of_drained _ hx hc hq hin, hq,
      (pastFinalDrain_iff _).mpr (.inr ⟨c, .inl hself⟩), hin⟩
  · obtain ⟨i, hd, h⟩ | ⟨bits, mark, rfl⟩ := takes_effect htakes
    · have hport := agentPacket_not_port hd
      exact ⟨h.keeps_lastFrameSent hs, h.queue_append hport fun _ => hs.1,
        h.blockWrites_eq_of_no_frame hport hs.2⟩
    · exact ⟨hs, ⟨[], (List.append_nil _).symm⟩, rfl⟩
  · exact hs.lastFrameSent_of_exited (hend.elim hs.lifecycle.stopped_exited id)

/-- Settles O44: the handler table is empty slot by slot, and the rest is the definition of reset. -/
theorem resetValues : Obligations.ResetValues :=
  ⟨rfl, rfl, rfl, reset_handler, rfl, rfl, rfl, rfl, rfl, rfl, rfl, reset_cphase, rfl, rfl, rfl, rfl⟩

/-- Settles O51: at reset there is no worker, no caller inside STOP and no snapshot. -/
theorem coherentAtReset : Obligations.CoherentAtReset :=
  ⟨⟨reset_workerCoherent, reset_lifecycleCoherent⟩,
    ⟨fun _ => rfl, fun hstarted => absurd rfl hstarted⟩, rfl⟩

end Sys2Proof.Machine
end
